-- ==== Sys2Proof/Word.lean ====
section
/-!
DEFINITION. The words, sets and indices of the Bractel Q940 (00 Table I-2, 10 Table 10-1), and the two raw
records that management requests carry as bytes.
-/

namespace Sys2Proof

/-- One byte of a frame (R179). -/
abbrev Byte := BitVec 8

/-- A field of two bytes (R179). -/
abbrev Half := BitVec 16

/-- A set of needles of one bar: needle n is bit n (R179). -/
abbrev NeedleSet := BitVec 48

/-- A set of the twelve event flags: flag f of Table 10-2 is bit f (R179). -/
abbrev FlagSet := BitVec 12

/-- A set of head slots: slot s is bit s (R179). -/
abbrev SlotSet := BitVec 6

/-- Lane number (R45). -/
abbrev LaneId := Fin 4

/-- Head slot number (Table I-2). -/
abbrev SlotId := Fin 6

/-- Needle index (Table I-2). -/
abbrev NeedleId := Fin 48

/-- Pattern number (Table I-2). -/
abbrev PatternId := Fin 128

/-- Panel ring index; counts modulo 32 (R19). -/
abbrev RingIndex := Fin 32

/-- One report that an ADVANCE frame puts in flight (R110), or the notice the Sequencer answers one with (R59).
A CYCLE frame lists those that are taken before its STATUS frame is built, in order (log 2). -/
inductive Report where
  /-- lane `l` takes its consumption report -/
  | lane (l : LaneId)
  /-- the Sequencer takes its consumption report -/
  | sequencer
  /-- lane `l` takes its phase notice -/
  | notice (l : LaneId)
  /-- the Tally Unit takes its oldest feed report -/
  | feed
  deriving DecidableEq, Repr

/-- A segment record as the six bytes of Table 10-6 carry it. -/
structure SegmentWire where
  kind : Byte
  count : Half
  dx : Byte
  dy : Byte
  mode : Byte
  deriving DecidableEq, Repr

/-- A panel descriptor as the nineteen bytes of Table 10-7 carry it. -/
structure PanelWire where
  patterns : Vector Byte 4
  origins : Vector Half 4
  feedLane : Byte
  material : Byte
  repeats : Half
  gap : Half
  flags : Byte
  deriving DecidableEq, Repr

end Sys2Proof
end

