-- ==== Sys2Proof/Syntax.lean ====
section
/-!
DEFINITION. The commands of the block: one constructor per row of spec/opcode_table.json, in the table's order.
A CYCLE frame carries its sequence, its run byte (bit 0 is the run bit, R180), its speed field, and `order`, the
reports taken before its STATUS frame (log 2). A request carries its tag and the arguments of Table 10-5.
-/

namespace Sys2Proof

/-- One command of the Q940: a frame or bytes that arrive, an event of one of its blocks, or a management request. -/
inductive Instr where
  /-- POR (R178) -/
  | por
  /-- CYCLE_FRAME (R163) -/
  | cycleFrame (seq : Half) (run : Byte) (speed : Half) (order : List Report)
  /-- DISCARDED_FRAME (R161): bytes on the stitch line -/
  | discardedFrame (bytes : List Byte)
  /-- MGMT_FRAME (R165) -/
  | mgmtFrame (tag code : Byte) (args : List Byte)
  /-- RETURN_FRAME_SENT (R167) -/
  | returnFrameSent
  /-- WAKE_LIMIT (R120): the CYCLE frame that runs the wake out -/
  | wakeLimit (seq : Half) (run : Byte) (speed : Half) (order : List Report)
  /-- MODULE_LOSS (R123): the CYCLE frame at which a module is lost -/
  | moduleLoss (seq : Half) (run : Byte) (speed : Half) (order : List Report)
  /-- QUERY_TIMEOUT (R125): the CYCLE frame that sends the fourth head frame after F0 -/
  | queryTimeout (seq : Half) (run : Byte) (speed : Half) (order : List Report)
  /-- DWELL_LIMIT (R41): the CYCLE frame whose DWELL frame reaches the dwell limit -/
  | dwellLimit (seq : Half) (run : Byte) (speed : Half) (order : List Report)
  /-- MODULE_RETURN (R122, R183): bytes on the head link -/
  | moduleReturn (bytes : List Byte)
  /-- LANE_FETCH_COMPLETION (R51) -/
  | laneFetchCompletion (lane : LaneId)
  /-- MANAGEMENT_ACCESS_COMPLETION (R13, R17) -/
  | managementAccessCompletion
  /-- LANE_CONSUMPTION_REPORT (R59) -/
  | laneConsumptionReport (lane : LaneId)
  /-- PHASE_NOTICE (R59) -/
  | phaseNotice (lane : LaneId)
  /-- SEQUENCER_CONSUMPTION (R34) -/
  | sequencerConsumption
  /-- PHASE_END (R34) -/
  | phaseEnd
  /-- FEED_REPORT (R150) -/
  | feedReport
  /-- OPEN_PATTERN (R10) -/
  | openPattern (tag n pages : Byte)
  /-- APPEND_SEGMENTS (R11) -/
  | appendSegments (tag n : Byte) (first : Half) (records : List SegmentWire)
  /-- CLOSE_PATTERN (R14) -/
  | closePattern (tag n : Byte)
  /-- FREE_PATTERN (R15) -/
  | freePattern (tag n : Byte)
  /-- GET_PATTERN (R16) -/
  | getPattern (tag n : Byte)
  /-- READ_SEGMENTS (R17) -/
  | readSegments (tag n : Byte) (first : Half) (number : Byte)
  /-- WRITE_PANEL (R20) -/
  | writePanel (tag slot : Byte) (panel : PanelWire)
  /-- READ_PANEL (R21) -/
  | readPanel (tag slot : Byte)
  /-- SET_LAST (R23) -/
  | setLast (tag slot : Byte)
  /-- RUN (R26, R27) -/
  | run (tag : Byte)
  /-- PAUSE (R28) -/
  | pause (tag : Byte)
  /-- RESET_QUEUE (R42) -/
  | resetQueue (tag : Byte)
  /-- GET_QUEUE (R43) -/
  | getQueue (tag : Byte)
  /-- SET_NEEDLE_SET (R71) -/
  | setNeedleSet (tag k : Byte) (needles : NeedleSet)
  /-- GET_NEEDLE_SET (R72) -/
  | getNeedleSet (tag k : Byte)
  /-- GET_LANE (R73) -/
  | getLane (tag lane : Byte)
  /-- SET_INTERLOCK (R91) -/
  | setInterlock (tag before built rests : Byte)
  /-- GET_INTERLOCK (R92) -/
  | getInterlock (tag : Byte)
  /-- SET_BAND (R97) -/
  | setBand (tag row : Byte) (ceiling : Half) (dmax : Vector Half 4)
  /-- GET_BAND (R98) -/
  | getBand (tag : Byte)
  /-- SET_SLOT_MAP (R115) -/
  | setSlotMap (tag : Byte) (slots : Vector Byte 4) (feed : Byte)
  /-- SET_PRESENCE (R116) -/
  | setPresence (tag lane : Byte) (needles : NeedleSet)
  /-- SET_LIMITS (R117) -/
  | setLimits (tag lane : Byte) (xmin xmax : Half)
  /-- LINK_START (R119) -/
  | linkStart (tag : Byte)
  /-- LINK_STOP (R121) -/
  | linkStop (tag : Byte)
  /-- HEAD_QUERY (R124) -/
  | headQuery (tag slot item : Byte)
  /-- GET_LINK (R128) -/
  | getLink (tag : Byte)
  /-- READ_HISTORY (R114) -/
  | readHistory (tag : Byte)
  /-- RESERVE_NEEDLE (R144) -/
  | reserveNeedle (tag lane needle : Byte)
  /-- RESTORE_NEEDLE (R145) -/
  | restoreNeedle (tag lane needle : Byte)
  /-- LOCK_NEEDLE (R146) -/
  | lockNeedle (tag lane needle : Byte)
  /-- GET_NEEDLES (R148) -/
  | getNeedles (tag lane : Byte)
  /-- READ_REPAIRS (R141) -/
  | readRepairs (tag n : Byte)
  /-- RETIRE_REPAIRS (R142) -/
  | retireRepairs (tag k : Byte)
  /-- TALLY_CONTROL (R154): bit 0 run, bit 1 reset, the others ignored (R181) -/
  | tallyControl (tag bits : Byte)
  /-- READ_TALLY (R155) -/
  | readTally (tag : Byte)
  /-- SET_MARK (R159) -/
  | setMark (tag selection : Byte) (metreValue panelValue : Half) (action : Byte)
  /-- READ_FLAGS (R170) -/
  | readFlags (tag : Byte)
  /-- CLEAR_FLAGS (R170) -/
  | clearFlags (tag : Byte) (flags : Half)
  /-- SET_NOTICE (R169) -/
  | setNotice (tag : Byte) (flags : Half)
  /-- SET_CONFIG of FMAX (R171); the lane byte is carried and ignored -/
  | setConfigFmax (tag lane : Byte) (value : Half)
  /-- SET_CONFIG of FGAP (R171); the lane byte is carried and ignored -/
  | setConfigFgap (tag lane : Byte) (value : Half)
  /-- SET_CONFIG of T_IN (R171); the lane byte is carried and ignored -/
  | setConfigTIn (tag lane : Byte) (value : Half)
  /-- SET_CONFIG of T_OUT (R171); the lane byte is carried and ignored -/
  | setConfigTOut (tag lane : Byte) (value : Half)
  /-- SET_CONFIG of DWELL_LIMIT (R171); the lane byte is carried and ignored -/
  | setConfigDwellLimit (tag lane : Byte) (value : Half)
  /-- SET_CONFIG of BREAK_ACTION (R147, R171) -/
  | setConfigBreakAction (tag lane : Byte) (value : Half)
  /-- GET_CONFIG (R172) -/
  | getConfig (tag : Byte)
  /-- SET_COMPENSATION (R173) -/
  | setCompensation (tag material : Byte) (sx : Vector Half 4) (sy : Half)
  /-- GET_COMPENSATION (R173) -/
  | getCompensation (tag material : Byte)
  /-- SET_MODE (R174) -/
  | setMode (tag mode : Byte)
  /-- LINE_RESET (R176) -/
  | lineReset (tag : Byte)
  /-- IDENTIFY (R177) -/
  | identify (tag : Byte)
  deriving DecidableEq, Repr

end Sys2Proof
end

