-- ==== Sys2Proof/Decode.lean ====
section
/-!
DEFINITION. The commands that a word spells by the table's bits. No row of spec/opcode_table.json gives bits (spec/98_reader.md
counts 0 rows with fields), so no word spells a command. The bytes of the part's own frames are decoded in Machine/Wire.lean
and Machine/Protocol.lean.
-/

namespace Sys2Proof

/-- The command a word of `nbits` bits spells: none, since no row of the table has bits. -/
def decodeTableWord (_nbits _w : Nat) : Option Instr := none

end Sys2Proof
end

