-- ==== Sys2Proof/Config.lean ====
section
/-!
DEFINITION. The figures fixed in the part (R177, Table 9-6) and the bounds the rules name. The spec leaves no value
free in the course of a command, so no free value stands here.
-/

namespace Sys2Proof.Config

/-- Part code (Table 9-6). -/
def partCode : Nat := 940
/-- Revision (Table 9-6). -/
def revision : Nat := 2
/-- Lanes (Table 9-6). -/
def lanes : Nat := 4
/-- Needles per lane (Table 9-6). -/
def needlesPerLane : Nat := 48
/-- Pattern memory pages (R1, Table 9-6). -/
def pages : Nat := 512
/-- Locations in one page (section 1.1). -/
def pageSize : Nat := 32
/-- Patterns (R3, Table 9-6). -/
def patterns : Nat := 128
/-- Panel ring slots (R19, Table 9-6). -/
def ringSlots : Nat := 32
/-- Head slots (Table 9-6). -/
def headSlots : Nat := 6
/-- Management queue depth (R166, Table 9-6). -/
def queueDepth : Nat := 4
/-- Sent-frame history entries (R112, Table 9-6). -/
def historyDepth : Nat := 8
/-- Repair log capacity (R138, Table 9-6). -/
def repairDepth : Nat := 64
/-- A downward frame finds room while fewer return frames than this wait (R161). -/
def returnRoom : Nat := 10
/-- Most pages of one pattern (R3). -/
def maxPages : Nat := 64
/-- Largest bar position (Table I-2). -/
def maxPosition : Nat := 8191
/-- Limit of X_pat on either side (R75). -/
def maxX : Int := 131071
/-- Limit of Y_pat (R77). -/
def maxY : Nat := 16777215
/-- Largest speed a CYCLE frame carries (R181). -/
def maxSpeed : Nat := 4000
/-- The wake limit (R120). -/
def wakeLimit : Nat := 32
/-- Misses that lose a module (R123). -/
def missLimit : Nat := 3
/-- Head frames after F0 that end a query (R125). -/
def queryFrames : Nat := 4

end Sys2Proof.Config
end

