-- ==== Sys2Proof/Machine/Request.lean ====
section
/-!
DEFINITION. A management request as the Management Unit queues it: the request of Table 10-5 with its arguments as received.
Values outside an argument's range are kept, for the owning block to judge (R181).
-/

namespace Sys2Proof.Machine

/-- One management request with its arguments as received (Table 10-5). -/
inductive Request where
  | openPattern (n pages : Byte)
  | appendSegments (n : Byte) (first : Half) (records : List SegmentWire)
  | closePattern (n : Byte)
  | freePattern (n : Byte)
  | getPattern (n : Byte)
  | readSegments (n : Byte) (first : Half) (number : Byte)
  | writePanel (slot : Byte) (panel : PanelWire)
  | readPanel (slot : Byte)
  | setLast (slot : Byte)
  | run
  | pause
  | resetQueue
  | getQueue
  | setNeedleSet (k : Byte) (needles : NeedleSet)
  | getNeedleSet (k : Byte)
  | getLane (lane : Byte)
  | setInterlock (before built rests : Byte)
  | getInterlock
  | setBand (row : Byte) (ceiling : Half) (dmax : Vector Half 4)
  | getBand
  | setSlotMap (slots : Vector Byte 4) (feed : Byte)
  | setPresence (lane : Byte) (needles : NeedleSet)
  | setLimits (lane : Byte) (xmin xmax : Half)
  | linkStart
  | linkStop
  | headQuery (slot item : Byte)
  | getLink
  | readHistory
  | reserveNeedle (lane needle : Byte)
  | restoreNeedle (lane needle : Byte)
  | lockNeedle (lane needle : Byte)
  | getNeedles (lane : Byte)
  | readRepairs (n : Byte)
  | retireRepairs (k : Byte)
  | tallyControl (bits : Byte)
  | readTally
  | setMark (selection : Byte) (metreValue panelValue : Half) (action : Byte)
  | readFlags
  | clearFlags (flags : Half)
  | setNotice (flags : Half)
  | setConfig (item lane : Byte) (value : Half)
  | getConfig
  | setCompensation (material : Byte) (sx : Vector Half 4) (sy : Half)
  | getCompensation (material : Byte)
  | setMode (mode : Byte)
  | lineReset
  | identify
  deriving DecidableEq, Repr

end Sys2Proof.Machine
end

