-- ==== Sys2Proof/Machine/State.lean ====
section
/-!
DEFINITION. Everything the Q940 holds, block by block (00 Table I-1), as plain data, and its value after power-on reset.
Each structure names the rule that lists its items. INVENTORY.md lists every field with its reset value.
-/

namespace Sys2Proof.Machine

/-! ### Names (Table 10-2) -/

/-- Mode of the Line Port (section 9.7). -/
inductive Mode where | normal | echo | loopback
  deriving DecidableEq, Repr

/-- Result of a management request (Table 9-3). -/
inductive Result where
  | done | clamped | busy | state | inUse | range | conflict | noSpace | empty | lost | timeout | linkDown | unknown
  | format | absent
  deriving DecidableEq, Repr

/-- The twelve event flags, in the order of Table 10-2. -/
inductive Flag where
  | panelDone | queueDrained | panelWait | threadBreak | repairLost | mark | starved | clamp | linkFault | lineError
  | queryTimeout | descriptorFault
  deriving DecidableEq, Repr

/-- Segment kind, and the class a lane holds as its last class (R2, R46). -/
inductive SegKind where | stitch | jump | tack | trim
  deriving DecidableEq, Repr

/-- Class of a ready record (R56). -/
inductive RecClass where | stitch | jump | tack | trim | hold
  deriving DecidableEq, Repr

/-- Kind of a head frame (section 6.2). -/
inductive FrameKind where | still | wake | dwell | step | advance
  deriving DecidableEq, Repr

/-- State of the Sequencer (R24). -/
inductive SeqState where | stopped | running | paused | drained
  deriving DecidableEq, Repr

/-- The phases of a panel, in their order (Table 2-3). -/
inductive PanelPhase where | gap | tieIn | body | tieOut | trimOut
  deriving DecidableEq, Repr

/-- Phase the Sequencer reports (R24). -/
inductive Phase where
  | none
  | panel (p : PanelPhase)
  | wait
  deriving DecidableEq, Repr

/-- Phase of a lane (Table 3-1). -/
inductive LanePhase where
  | idle
  | work (p : PanelPhase)
  | done
  deriving DecidableEq, Repr

/-- Pause cause (R24); `none` when not PAUSED. -/
inductive Cause where
  | none | request | mark | panelFlag | break | starved | link | repairFull | descriptor
  deriving DecidableEq, Repr

/-- CI status (R22). -/
inductive CiStatus where | unstarted | current | completed
  deriving DecidableEq, Repr

/-- Role of a lane in the current panel (R45). -/
inductive Role where | none | hold | pattern | feed
  deriving DecidableEq, Repr

/-- State of the head link (Table 6-5). -/
inductive LinkState where | off | waking | active | failed
  deriving DecidableEq, Repr

/-- Module state a return carries (Table 6-7). -/
inductive ModuleState where | notReady | ready
  deriving DecidableEq, Repr

/-- State of a needle (Table 7-1). -/
inductive NeedleState where | absent | engaged | broken | locked
  deriving DecidableEq, Repr

/-- Break action of a lane (R147). -/
inductive BreakAction where | cont | hold
  deriving DecidableEq, Repr

/-- Mark selection (Table 8-1). -/
inductive MarkSelection where | none | metres | panels | both
  deriving DecidableEq, Repr

/-- Mark action (Table 8-1). -/
inductive MarkAction where | notice | pause
  deriving DecidableEq, Repr

/-- State of a directory entry (R3). -/
inductive DirState where | empty | loading | ready
  deriving DecidableEq, Repr

/-- Needle mode of a stored segment (Table 1-1). -/
inductive NeedleMode where
  | all
  | set (k : Fin 32)
  deriving DecidableEq, Repr

/-! ### The stitch line and the Management Unit -/

/-- A receiver of frames: hunting, or in a frame with the bytes taken after the start delimiter (R161). -/
inductive Receiver where
  | hunting
  | inFrame (got : List Byte)
  deriving DecidableEq, Repr

/-- The items of a STATUS frame (Table 9-1). -/
structure Status where
  seq : Half
  kind : Option FrameKind
  state : SeqState
  phase : Phase
  cause : Cause
  link : LinkState
  attention : Bool
  flags : FlagSet
  dwell : Nat
  ci : RingIndex
  repairs : Nat
  deriving DecidableEq, Repr

/-- A frame of the return direction: a STATUS frame, a REPLY frame, or an echo of the bytes received (R167, R175). -/
inductive ReturnFrame where
  | status (st : Status)
  | reply (tag code : Byte) (result : Result) (data : List Byte)
  | echo (bytes : List Byte)
  deriving DecidableEq, Repr

/-- Run bit and speed of an accepted CYCLE frame (R163). -/
structure CycleInfo where
  run : Bool
  speed : Nat
  deriving DecidableEq, Repr

/-- The Line Port (Table 9-7). -/
structure LinePort where
  mode : Mode
  receiver : Receiver
  lastSeq : Option Half
  latest : Option CycleInfo
  sending : Option ReturnFrame
  waiting : List ReturnFrame
  deriving DecidableEq, Repr

/-- A queued management request with its tag (R166). -/
structure Entry where
  tag : Byte
  req : Request
  deriving DecidableEq, Repr

/-- A segment record as pattern memory holds it (R2). -/
structure Segment where
  kind : SegKind
  count : Nat
  dx : Int
  dy : Nat
  mode : NeedleMode
  deriving DecidableEq, Repr

/-- How far the slow request at the head of the queue has come (R166): the records of APPEND_SEGMENTS still to be written and
those written (R13), the records READ_SEGMENTS has read and those still to read (R17), or a head query (R124). -/
inductive Active where
  | append (n : PatternId) (written todo : List Segment) (clamped : Bool)
  | read (n : PatternId) (next left : Nat) (got : List Segment) (short : Bool)
  | query
  deriving DecidableEq, Repr

/-- The Management Unit (R166). -/
structure MgmtUnit where
  queue : List Entry
  active : Option Active
  deriving DecidableEq, Repr

/-- The result and data a request is answered with (Table 9-3, R180). -/
structure Answer where
  result : Result
  data : List Byte
  deriving DecidableEq, Repr

/-! ### The Pattern Store (R1 to R9) -/

/-- Directory entry (Table 1-2). -/
structure DirEntry where
  state : DirState
  pages : List Nat
  count : Nat
  maxDy : Nat
  pins : Nat
  deriving DecidableEq, Repr

/-- A requester of the pattern memory port: lanes 0 to 3, and 4 for management, in the circular order of R8. -/
abbrev Requester := Fin 5

/-- The access in flight (R7), with the mark of R9 that its request has been cancelled. -/
structure Access where
  who : Requester
  addr : Nat
  cancelled : Bool
  deriving DecidableEq, Repr

/-- The Pattern Store. `mem` lists locations with their records, locations strictly rising, none equal to what an unlisted
location reads as (log 9, log 29). `free` lists the free pages, rising. -/
structure PatternStore where
  mem : List (Nat × Segment)
  dir : Vector DirEntry 128
  free : List Nat
  inFlight : Option Access
  waiting : Vector (Option Nat) 5
  lastGrant : Requester
  deriving DecidableEq, Repr

/-! ### The Panel Sequencer (R19 to R44) -/

/-- Panel descriptor as stored (Table 2-1). -/
structure Descriptor where
  patterns : Vector (Option PatternId) 4
  origins : Vector Nat 4
  feedLane : LaneId
  material : Fin 16
  repeats : Nat
  gap : Nat
  tieIn : Bool
  tieOut : Bool
  trimOut : Bool
  notice : Bool
  pauseAfter : Bool
  deriving DecidableEq, Repr

/-- Panel context (R31): the descriptor with its origins clamped, and the scale factors in force. -/
structure Context where
  desc : Descriptor
  sx : Vector Nat 4
  sy : Nat
  deriving DecidableEq, Repr

/-- Prefetch condition with its target slot, and the context a HELD prefetch holds (R22, R31). -/
inductive Prefetch where
  | none
  | held (target : RingIndex) (ctx : Context)
  | blocked (target : RingIndex)
  | faulted (target : RingIndex)
  deriving DecidableEq, Repr

/-- The Panel Sequencer (R22, R24, R33, R35, R40). `repeats` counts the repeats reported in BODY (R36). -/
structure Sequencer where
  ring : Vector (Option Descriptor) 32
  ci : RingIndex
  lvi : RingIndex
  ciStatus : CiStatus
  prefetch : Prefetch
  state : SeqState
  phase : Phase
  cause : Cause
  pausePending : Bool
  current : Option Context
  dwell : Nat
  serial : Half
  gapRem : Nat
  tie : Nat
  repeats : Nat
  deriving DecidableEq, Repr

/-! ### The Lane Expanders (R45 to R74) -/

/-- Entry of a segment buffer (R49). A record carries its segment index and, as current entry, its cycles done. -/
inductive BufEntry where
  | absent
  | fetch (index : Nat)
  | record (index cycles : Nat) (seg : Segment)
  deriving DecidableEq, Repr

/-- Ready record (Table 3-4). -/
structure Ready where
  cls : RecClass
  target : Option Nat
  mask : NeedleSet
  rests : Nat
  feed : Option Nat
  repeatEnd : Bool
  deriving DecidableEq, Repr

/-- The items a discarded record gives back (R60, R65). -/
structure Undo where
  x : Int
  y : Nat
  lastClass : SegKind
  target : Option Nat
  lastMask : Option NeedleSet
  deriving DecidableEq, Repr

/-- What a lane is handed with a panel (R45, R48, R58): its role and pattern, its share of the context, and the first phase. -/
structure LaneJob where
  role : Role
  pattern : Option PatternId
  origin : Nat
  sx : Nat
  sy : Nat
  repeats : Nat
  first : PanelPhase
  deriving DecidableEq, Repr

/-- Lane context (Table 3-1, R84), with the lane's copy of what it was handed and what R60 needs (log 17). -/
structure Lane where
  phase : LanePhase
  role : Role
  pattern : Option PatternId
  cur : BufEntry
  nxt : BufEntry
  x : Int
  y : Nat
  repeatIdx : Nat
  stitchIdx : Nat
  lastClass : SegKind
  target : Option Nat
  lastMask : Option NeedleSet
  ready : Option Ready
  buildWaiting : Bool
  noticeDue : Bool
  yFed : Nat
  origin : Nat
  sx : Nat
  sy : Nat
  repeats : Nat
  undo : Option Undo
  deriving DecidableEq, Repr

/-! ### The Frame Assembler and the Head Link Controller (R93 to R129) -/

/-- Row of the speed band table (R93). -/
structure Band where
  ceiling : Nat
  dmax : Vector Nat 4
  deriving DecidableEq, Repr

/-- Band selection of the latest send point (R96). -/
structure BandSelection where
  speed : Nat
  row : Fin 8
  deriving DecidableEq, Repr

/-- Entry of the sent-frame history (Table 6-4). -/
structure HistoryEntry where
  seq : Half
  kind : FrameKind
  serial : Half
  phase : Phase
  repeatIdx : Nat
  stitchIdx : Nat
  yFed : Nat
  pos : Vector Nat 4
  deriving DecidableEq, Repr

/-- The Frame Assembler (R93, R96, R105, R112). `history` holds its entries newest first. -/
structure Assembler where
  bands : Vector Band 8
  selection : Option BandSelection
  pos : Vector Nat 4
  carryPending : Bool
  history : List HistoryEntry
  deriving DecidableEq, Repr

/-- Travel limits of a lane (R117). -/
structure Limits where
  xmin : Nat
  xmax : Nat
  deriving DecidableEq, Repr

/-- The outstanding head query (R124, R125): `sent` is absent until the query has ridden, then counts head frames after F0. -/
structure Query where
  slot : SlotId
  item : Nat
  marker : Nat
  sent : Option Nat
  deriving DecidableEq, Repr

/-- Lane part of a head frame (Table 6-3). -/
structure LanePart where
  slot : SlotId
  pos : Nat
  down : NeedleSet
  trim : Bool
  deriving DecidableEq, Repr

/-- Query part of a head frame (Table 6-3). -/
structure QueryPart where
  slot : SlotId
  item : Nat
  marker : Nat
  deriving DecidableEq, Repr

/-- Head frame (Table 6-3). The wake marker is set exactly in WAKE frames. -/
structure HeadFrame where
  seq : Half
  kind : FrameKind
  parts : List LanePart
  feedSlot : Option SlotId
  feed : Nat
  query : Option QueryPart
  deriving DecidableEq, Repr

/-- Module return (Table 6-7); a query answer is its marker and data. -/
structure ModuleReturn where
  slot : SlotId
  seq : Half
  state : ModuleState
  missing : NeedleSet
  answer : Option (Nat × Half)
  deriving DecidableEq, Repr

/-- The Head Link Controller (R118, Table 6-10). `out` is the head frame last driven on the head link. -/
structure HeadLink where
  state : LinkState
  slotLane : Vector (Option SlotId) 4
  slotFeed : Option SlotId
  presence : Vector NeedleSet 4
  limits : Vector Limits 4
  awake : SlotSet
  missing : SlotSet
  wakeCount : Nat
  miss : Vector Nat 6
  seen : SlotSet
  lastState : Vector (Option ModuleState) 6
  receiver : Receiver
  query : Option Query
  marker : Nat
  out : Option HeadFrame
  deriving DecidableEq, Repr

/-! ### Needles, tallies, tables (R90, R130 to R160, R171, R173) -/

/-- Needle entry (R130). -/
structure NeedleEntry where
  state : NeedleState
  breaks : Nat
  deriving DecidableEq, Repr

/-- Position part of a repair record (R139). -/
structure Position where
  kind : FrameKind
  serial : Half
  phase : Phase
  repeatIdx : Nat
  stitchIdx : Nat
  yFed : Nat
  pos : Nat
  deriving DecidableEq, Repr

/-- Repair record (Table 7-4). -/
structure Repair where
  lane : LaneId
  needle : NeedleId
  seq : Half
  position : Option Position
  deriving DecidableEq, Repr

/-- Needle Table and Repair Log (R130, R138, R143). `log` holds its records oldest first. -/
structure NeedleTable where
  entries : Vector (Vector NeedleEntry 48) 4
  reservation : Option (LaneId × NeedleId)
  log : List Repair
  deriving DecidableEq, Repr

/-- The Tally Unit (Table 8-1); `run` is its run state. -/
structure Tally where
  steps : Nat
  mm : Nat
  metres : Half
  panels : Half
  run : Bool
  selection : MarkSelection
  metreValue : Half
  panelValue : Half
  action : MarkAction
  deriving DecidableEq, Repr

/-- The config table (Table 9-5). -/
structure ConfigTable where
  fmax : Nat
  fgap : Nat
  tIn : Nat
  tOut : Nat
  dwellLimit : Nat
  breakAction : Vector BreakAction 4
  deriving DecidableEq, Repr

/-- Row of the compensation table (R173). -/
structure CompRow where
  sx : Vector Nat 4
  sy : Nat
  deriving DecidableEq, Repr

/-! ### Reports in flight (R59, R110) -/

/-- Where a lane's consumption report stands: none in flight, in flight, or in flight with the phase notice of the same
consumption taken already (R59); `changed` says that the notice named another phase. -/
inductive Consumption where
  | none
  | due
  | noticed (changed : Bool)
  deriving DecidableEq, Repr

/-- Phase notice in flight (R59): a phase, or the end of the panel with the panel handed along with it, if any (R68). -/
inductive Notice where
  | phase (p : PanelPhase)
  | panelEnd (next : Option LaneJob)
  deriving DecidableEq, Repr

/-- Consumption report to the Sequencer (R110): the gap feed taken and the repeat-end mark. -/
structure SeqReport where
  gapFeed : Nat
  repeatEnd : Bool
  deriving DecidableEq, Repr

/-- The reports in flight between blocks (log 2). -/
structure Reports where
  consumption : Vector Consumption 4
  notices : Vector (Option Notice) 4
  sequencer : Option SeqReport
  feeds : List Nat
  deriving DecidableEq, Repr

/-! ### The machine -/

/-- The whole state of the Q940 and the queue of commands that wait for it. -/
structure State where
  line : LinePort
  mgmt : MgmtUnit
  store : PatternStore
  seq : Sequencer
  lanes : Vector Lane 4
  needleSets : Vector NeedleSet 32
  interlock : Vector Nat 16
  asm : Assembler
  link : HeadLink
  needles : NeedleTable
  tally : Tally
  flags : FlagSet
  notice : FlagSet
  config : ConfigTable
  comp : Vector CompRow 16
  reports : Reports
  pending : List Instr
  deriving DecidableEq, Repr

/-- No command faults: the spec gives every command an effect in every state (INVENTORY.md, Faults). -/
inductive Fault where
  deriving DecidableEq, Repr

/-- Why the model has no meaning for a command. -/
inductive Refusal where
  /-- Raised by an arm of `exec` whose row has no meaning yet; safe, since the run stops. No arm raises it. -/
  | notModelled (mnemonic : String)
  deriving DecidableEq, Repr

/-! ### Power-on reset -/

/-- What a location of pattern memory reads as while nothing has written it. DESIGN CHOICE, unsafe (log 9): the spec leaves
it undefined and R1 keeps it from being observed. -/
def Segment.blank : Segment := ⟨.stitch, 1, 0, 0, .all⟩

/-- An EMPTY directory entry (R3). -/
def DirEntry.blank : DirEntry := ⟨.empty, [], 0, 0, 0⟩

/-- The Pattern Store after POR (R18). -/
def PatternStore.reset : PatternStore :=
  { mem := [], dir := Vector.replicate 128 DirEntry.blank, free := List.range 512, inFlight := none,
    waiting := Vector.replicate 5 none, lastGrant := 4 }

/-- The Sequencer after POR, RESET_QUEUE and LINE_RESET (R42, R44). -/
def Sequencer.reset : Sequencer :=
  { ring := Vector.replicate 32 none, ci := 0, lvi := 0, ciStatus := .unstarted, prefetch := .none, state := .stopped,
    phase := .none, cause := .none, pausePending := false, current := none, dwell := 0, serial := 0, gapRem := 0, tie := 0,
    repeats := 0 }

/-- A lane after POR, RESET_QUEUE and LINE_RESET (Table 3-7); the last five fields are the model's (log 17). -/
def Lane.reset : Lane :=
  { phase := .idle, role := .none, pattern := none, cur := .absent, nxt := .absent, x := 0, y := 0, repeatIdx := 0,
    stitchIdx := 0, lastClass := .jump, target := none, lastMask := none, ready := none, buildWaiting := false,
    noticeDue := false, yFed := 0, origin := 0, sx := 0, sy := 0, repeats := 0, undo := none }

/-- The interlock matrix after POR, row by row (Table 5-1). -/
def interlockReset : Vector Nat 16 := #v[0, 0, 0, 0, 0, 0, 0, 0, 0, 0, 0, 0, 2, 0, 2, 0]

/-- The Frame Assembler after POR (R93, R96, R105, R112). -/
def Assembler.reset : Assembler :=
  { bands := Vector.replicate 8 ⟨4000, Vector.replicate 4 40⟩, selection := none, pos := Vector.replicate 4 0,
    carryPending := false, history := [] }

/-- The Head Link Controller after POR (Table 6-10). -/
def HeadLink.reset : HeadLink :=
  { state := .off, slotLane := Vector.replicate 4 none, slotFeed := none, presence := Vector.replicate 4 0,
    limits := Vector.replicate 4 ⟨0, 8191⟩, awake := 0, missing := 0, wakeCount := 0, miss := Vector.replicate 6 0, seen := 0,
    lastState := Vector.replicate 6 none, receiver := .hunting, query := none, marker := 15, out := none }

/-- The Needle Table and Repair Log after POR (R149). -/
def NeedleTable.reset : NeedleTable :=
  { entries := Vector.replicate 4 (Vector.replicate 48 ⟨.absent, 0⟩), reservation := none, log := [] }

/-- The Tally Unit after POR (Table 8-5). -/
def Tally.reset : Tally :=
  { steps := 0, mm := 0, metres := 0, panels := 0, run := true, selection := .none, metreValue := 0, panelValue := 0,
    action := .notice }

/-- The config table after POR (Table 9-5). -/
def ConfigTable.reset : ConfigTable :=
  { fmax := 300, fgap := 200, tIn := 3, tOut := 3, dwellLimit := 16, breakAction := Vector.replicate 4 .hold }

/-- No report in flight. -/
def Reports.none : Reports :=
  { consumption := Vector.replicate 4 .none, notices := Vector.replicate 4 Option.none, sequencer := Option.none, feeds := [] }

/-- The Line Port after POR (Table 9-7). -/
def LinePort.reset : LinePort :=
  { mode := .normal, receiver := .hunting, lastSeq := none, latest := none, sending := none, waiting := [] }

/-- The machine right after power-on reset (the reset tables of every chapter), with no command waiting. -/
def State.reset : State :=
  { line := LinePort.reset, mgmt := ⟨[], none⟩, store := PatternStore.reset, seq := Sequencer.reset,
    lanes := Vector.replicate 4 Lane.reset, needleSets := Vector.replicate 32 (BitVec.allOnes 48),
    interlock := interlockReset, asm := Assembler.reset, link := HeadLink.reset, needles := NeedleTable.reset,
    tally := Tally.reset, flags := 0, notice := 0, config := ConfigTable.reset,
    comp := Vector.replicate 16 ⟨Vector.replicate 4 4096, 4096⟩, reports := Reports.none, pending := [] }

end Sys2Proof.Machine
end

