-- ==== Sys2Proof/Machine/Codes.lean ====
section
/-!
DEFINITION. The enumeration codes of Table 10-2, as bytes of frames.
-/

namespace Sys2Proof.Machine

/-- A set-or-clear item (Table 10-2). -/
def boolCode (b : Bool) : Byte := if b then 1 else 0

/-- Record class (Table 10-2). -/
def RecClass.code : RecClass → Byte
  | .stitch => 0 | .jump => 1 | .tack => 2 | .trim => 3 | .hold => 4

/-- Segment kind (Table 10-2). -/
def SegKind.code : SegKind → Byte
  | .stitch => 0 | .jump => 1 | .tack => 2 | .trim => 3

/-- Head frame kind (Table 10-2). -/
def FrameKind.code : FrameKind → Byte
  | .still => 0 | .wake => 1 | .dwell => 2 | .step => 3 | .advance => 4

/-- Kind sent, 255 when no head frame was sent (Table 10-2). -/
def kindSentCode : Option FrameKind → Byte
  | none => 255
  | some k => k.code

/-- Sequencer state (Table 10-2). -/
def SeqState.code : SeqState → Byte
  | .stopped => 0 | .running => 1 | .paused => 2 | .drained => 3

/-- Panel phase (Table 10-2). -/
def PanelPhase.code : PanelPhase → Byte
  | .gap => 1 | .tieIn => 2 | .body => 3 | .tieOut => 4 | .trimOut => 5

/-- Sequencer phase (Table 10-2). -/
def Phase.code : Phase → Byte
  | .none => 0 | .panel p => p.code | .wait => 6

/-- Lane phase (Table 10-2). -/
def LanePhase.code : LanePhase → Byte
  | .idle => 7 | .work p => p.code | .done => 8

/-- Pause cause (Table 10-2). -/
def Cause.code : Cause → Byte
  | .none => 0 | .request => 1 | .mark => 2 | .panelFlag => 3 | .break => 4 | .starved => 5 | .link => 6 | .repairFull => 7
  | .descriptor => 8

/-- Link state (Table 10-2). -/
def LinkState.code : LinkState → Byte
  | .off => 0 | .waking => 1 | .active => 2 | .failed => 3

/-- Mode (Table 10-2). -/
def Mode.code : Mode → Byte
  | .normal => 0 | .echo => 1 | .loopback => 2

/-- Needle state (Table 10-2). -/
def NeedleState.code : NeedleState → Byte
  | .absent => 0 | .engaged => 1 | .broken => 2 | .locked => 3

/-- Break action (Table 10-2). -/
def BreakAction.code : BreakAction → Byte
  | .cont => 0 | .hold => 1

/-- Mark selection (Table 10-2). -/
def MarkSelection.code : MarkSelection → Byte
  | .none => 0 | .metres => 1 | .panels => 2 | .both => 3

/-- Mark action (Table 10-2). -/
def MarkAction.code : MarkAction → Byte
  | .notice => 0 | .pause => 1

/-- Result (Table 10-2). -/
def Result.code : Result → Byte
  | .done => 0 | .clamped => 1 | .busy => 2 | .state => 3 | .inUse => 4 | .range => 5 | .conflict => 6 | .noSpace => 7
  | .empty => 8 | .lost => 9 | .timeout => 10 | .linkDown => 11 | .unknown => 12 | .format => 13 | .absent => 14

/-- Bit of a flag in a set of flags (Table 10-2). -/
def Flag.bit : Flag → Nat
  | .panelDone => 0 | .queueDrained => 1 | .panelWait => 2 | .threadBreak => 3 | .repairLost => 4 | .mark => 5
  | .starved => 6 | .clamp => 7 | .linkFault => 8 | .lineError => 9 | .queryTimeout => 10 | .descriptorFault => 11

/-- CI status (Table 10-2). -/
def CiStatus.code : CiStatus → Byte
  | .unstarted => 0 | .current => 1 | .completed => 2

/-- Prefetch condition (Table 10-2). -/
def Prefetch.code : Prefetch → Byte
  | .none => 0 | .held _ _ => 1 | .blocked _ => 2 | .faulted _ => 3

/-- Lane role (Table 10-2). -/
def Role.code : Role → Byte
  | .none => 0 | .hold => 1 | .pattern => 2 | .feed => 3

/-- Last module state, 255 when none has been reported (Table 10-2). -/
def moduleStateCode : Option ModuleState → Byte
  | none => 255
  | some .notReady => 0
  | some .ready => 1

/-- Directory state (Table 10-8). -/
def DirState.code : DirState → Byte
  | .empty => 0 | .loading => 1 | .ready => 2

/-- Needle mode of a segment record: 255 for ALL, k for SET k (Table 10-6). -/
def NeedleMode.code : NeedleMode → Byte
  | .all => 255
  | .set k => BitVec.ofNat 8 k.val

end Sys2Proof.Machine
end

