-- ==== Sys2Proof/Machine/Operands.lean ====
section
/-!
DEFINITION. Operand forms: what the bytes of a request's arguments name, and how a value out of range is stored at a limit
(R11, R12, R20, R97, R117, R171, R173, R181). A value that names nothing reads as `none`, for the request to answer RANGE.
-/

namespace Sys2Proof.Machine

/-- A number of one byte that names one of `n` things (Table I-2). -/
def indexOf (n : Nat) (b : Byte) : Option (Fin n) := if h : b.toNat < n then some ⟨b.toNat, h⟩ else none

/-- Lane number, or none above 3. -/
def laneOf (b : Byte) : Option LaneId := indexOf 4 b

/-- Head slot number, or none above 5. -/
def slotOf (b : Byte) : Option SlotId := indexOf 6 b

/-- Needle index, or none above 47. -/
def needleOf (b : Byte) : Option NeedleId := indexOf 48 b

/-- Pattern number, or none above 127. -/
def patternOf (b : Byte) : Option PatternId := indexOf 128 b

/-- Panel ring index, or none above 31. -/
def ringOf (b : Byte) : Option RingIndex := indexOf 32 b

/-- A slot assignment of SET_SLOT_MAP: NONE for 255, and none at all for another value above 5 (R115, R180). -/
def slotAssignment (b : Byte) : Option (Option SlotId) := if b = 255 then some none else (slotOf b).map some

/-- Segment kind of a code (Table 10-2). -/
def segKindOf (n : Nat) : Option SegKind :=
  match n with
  | 0 => some .stitch | 1 => some .jump | 2 => some .tack | 3 => some .trim | _ => none

/-- Needle mode of a byte: ALL, SET k, or none for a SET above 31 (Table 10-6, R11). -/
def needleModeOf (b : Byte) : Option NeedleMode := if b = 255 then some .all else (indexOf 32 b).map .set

/-- Mode of a code (Table 10-2). -/
def modeOf (b : Byte) : Option Mode :=
  match b.toNat with
  | 0 => some .normal | 1 => some .echo | 2 => some .loopback | _ => none

/-- Break action of a value (Table 10-2). -/
def breakActionOf (h : Half) : Option BreakAction :=
  match h.toNat with
  | 0 => some .cont | 1 => some .hold | _ => none

/-- Mark selection of a code (Table 10-2). -/
def selectionOf (b : Byte) : Option MarkSelection :=
  match b.toNat with
  | 0 => some .none | 1 => some .metres | 2 => some .panels | 3 => some .both | _ => none

/-- Mark action of a code (Table 10-2). -/
def markActionOf (b : Byte) : Option MarkAction :=
  match b.toNat with
  | 0 => some .notice | 1 => some .pause | _ => none

/-- A value brought into a range. -/
def clampNat (lo hi n : Nat) : Nat := if n < lo then lo else if hi < n then hi else n

/-- A segment record is acceptable to R11: its kind is a segment kind and its needle mode names a set up to 31. The reserved
bits of its first byte are ignored (R182). -/
def segmentOk (w : SegmentWire) : Bool := (segKindOf (w.kind.toNat % 8)).isSome && (needleModeOf w.mode).isSome

/-- The kind has no lateral move and no feed (R12). -/
def SegKind.fixed : SegKind → Bool
  | .tack | .trim => true
  | _ => false

/-- The stored form of a record and whether a clamp of R12 changed it. In a TACK or TRIM record dx and dy are stored as 0, and
that alone is no clamp (R12, log 33). -/
def normalise (w : SegmentWire) : Segment × Bool :=
  let kind := (segKindOf (w.kind.toNat % 8)).getD .stitch
  let mode := (needleModeOf w.mode).getD .all
  let count := clampNat 1 1024 w.count.toNat
  let dx := if w.dx.toInt = -128 then -127 else w.dx.toInt
  let clamped := count != w.count.toNat || (!kind.fixed && w.dx.toInt == -128)
  ({ kind := kind, count := count, dx := if kind.fixed then 0 else dx, dy := if kind.fixed then 0 else w.dy.toNat,
     mode := mode }, clamped)

/-- A segment record as READ_SEGMENTS returns it, reserved bits 0 (R182, Table 10-6). -/
def storedBytes (g : Segment) : List Byte :=
  [g.kind.code, BitVec.ofNat 8 (g.count / 256), BitVec.ofNat 8 g.count, BitVec.ofInt 8 g.dx, BitVec.ofNat 8 g.dy, g.mode.code]

/-- The lane pattern of a descriptor: absent for 255, a pattern number, or out of range (R182). -/
def lanePatternOf (b : Byte) : Option (Option PatternId) := if b = 255 then some none else (patternOf b).map some

/-- The descriptor of WRITE_PANEL, or none when a field is out of range (R20); origins above 8191 are stored as 8191. -/
def descriptorOf (w : PanelWire) : Option Descriptor :=
  match lanePatternOf w.patterns[0], lanePatternOf w.patterns[1], lanePatternOf w.patterns[2], lanePatternOf w.patterns[3],
    indexOf 4 w.feedLane, indexOf 16 w.material with
  | some p0, some p1, some p2, some p3, some fl, some mc =>
    if 1 ≤ w.repeats.toNat ∧ w.repeats.toNat ≤ 1023 then
      some { patterns := #v[p0, p1, p2, p3], origins := w.origins.map (fun o => min o.toNat 8191), feedLane := fl,
             material := mc, repeats := w.repeats.toNat, gap := w.gap.toNat, tieIn := w.flags.getLsbD 0,
             tieOut := w.flags.getLsbD 1, trimOut := w.flags.getLsbD 2, notice := w.flags.getLsbD 3,
             pauseAfter := w.flags.getLsbD 4 }
    else none
  | _, _, _, _, _, _ => none

/-- An origin of the descriptor lies above 8191 (R20). -/
def originAbove (w : PanelWire) : Bool := w.origins.any (fun o => decide (8191 < o.toNat))

end Sys2Proof.Machine
end

