-- ==== Sys2Proof/Machine/Arith.lean ====
section
/-!
DEFINITION. Position and feed arithmetic of Chapter 4, exact on integers.
-/

namespace Sys2Proof.Machine

/-- An integer brought between two limits. -/
def clampInt (lo hi x : Int) : Int := if x < lo then lo else if hi < x then hi else x

/-- X_pat after an increment, saturating at its limits (R75). -/
def satX (x dx : Int) : Int := clampInt (-Config.maxX) Config.maxX (x + dx)

/-- The increment leaves the range of X_pat, so CLAMP is set (R75). -/
def satXClamps (x dx : Int) : Bool := decide (Config.maxX < x + dx ∨ x + dx < -Config.maxX)

/-- The correction C: X_pat times Sx over 4096, rounded half away from zero (R79). -/
def correction (x : Int) (sx : Nat) : Int :=
  let p := x * (sx : Int)
  let r := (p.natAbs + 2048) / 4096
  if p < 0 then -(r : Int) else (r : Int)

/-- Origin plus correction, before the travel limits (R80). -/
def rawTarget (origin : Nat) (x : Int) (sx : Nat) : Int := (origin : Int) + correction x sx

/-- The compensated target, clamped into the travel limits (R80). -/
def compensatedTarget (lim : Limits) (origin : Nat) (x : Int) (sx : Nat) : Nat :=
  (clampInt lim.xmin lim.xmax (rawTarget origin x sx)).toNat

/-- Clamping changed the sum, so CLAMP is set (R80). -/
def targetClamps (lim : Limits) (origin : Nat) (x : Int) (sx : Nat) : Bool :=
  decide (rawTarget origin x sx < (lim.xmin : Int) ∨ (lim.xmax : Int) < rawTarget origin x sx)

/-- The rounded feed position of a Y_pat (R82). -/
def feedPosition (y sy : Nat) : Nat := (y * sy + 2048) / 4096

/-- The addition of dy takes Y_pat above its maximum (R78). -/
def satYClamps (y dy : Nat) : Bool := decide (Config.maxY < y + dy)

/-- Y_pat after an increment, saturating (R77, R78). -/
def satY (y dy : Nat) : Nat := if Config.maxY < y + dy then Config.maxY else y + dy

/-- The feed of a STITCH or JUMP record of the feed lane: 0 at a saturation, else the movement of the rounded position
(R78, R82). -/
def recordFeed (y dy sy : Nat) : Nat :=
  if Config.maxY < y + dy then 0 else feedPosition (y + dy) sy - feedPosition y sy

/-- The feed bound of check 5 (R85). -/
def feedBoundHolds (maxDy sy fmax : Nat) : Bool := decide ((maxDy * sy + 4095) / 4096 ≤ fmax)

/-- A position clamped into travel limits (R31, R117). -/
def clampPos (lim : Limits) (p : Nat) : Nat := if p < lim.xmin then lim.xmin else if lim.xmax < p then lim.xmax else p

/-- The distance between a bar and a target (R99). -/
def travel (pos target : Nat) : Nat := if pos ≤ target then target - pos else pos - target

/-- A bar moved toward a target by the lesser of its travel and Dmax (R106). -/
def moveToward (pos target dmax : Nat) : Nat :=
  if pos ≤ target then pos + min (target - pos) dmax else pos - min (pos - target) dmax

end Sys2Proof.Machine
end

