-- ==== Sys2Proof/Machine/Flags.lean ====
section
/-!
DEFINITION. The Event Flags block: setting and clearing sticky flags, and the attention bit (R168, R169, R170).
-/

namespace Sys2Proof.Machine

/-- The set that holds one flag (Table 10-2). -/
def Flag.mask (f : Flag) : FlagSet := 1#12 <<< f.bit

/-- The flag is set (R168). -/
def State.hasFlag (s : State) (f : Flag) : Bool := s.flags.getLsbD f.bit

/-- A block reports the event of a flag: the flag is set and stays set (R168). -/
def setFlag (f : Flag) (s : State) : State := { s with flags := s.flags ||| f.mask }

/-- A flag is set when a condition holds (R168). -/
def setFlagIf (b : Bool) (f : Flag) (s : State) : State := if b then setFlag f s else s

/-- The attention bit of a set of flags under a notice mask (R169). -/
def attention (flags notice : FlagSet) : Bool := flags &&& notice != 0

/-- A set of flags as a request carries it; bits 12 to 15 are ignored (R181). -/
def flagSetOf (h : Half) : FlagSet := h.setWidth 12

end Sys2Proof.Machine
end

