-- ==== Sys2Proof/Machine/Wire.lean ====
section
/-!
DEFINITION. Bytes: the encoding conventions of R179, the CRC of R162, the framing of R180, and the payloads of STATUS, REPLY,
head and module return frames (Tables 10-4, 10-11, 10-12).
-/

namespace Sys2Proof.Machine

/-! ### Encoding conventions (R179) -/

/-- One byte of a number. -/
def be1 (n : Nat) : List Byte := [BitVec.ofNat 8 n]

/-- A two-byte field, most significant byte first (R179). -/
def be2 (n : Nat) : List Byte := [BitVec.ofNat 8 (n / 256), BitVec.ofNat 8 n]

/-- A three-byte field, most significant byte first (R179). -/
def be3 (n : Nat) : List Byte := [BitVec.ofNat 8 (n / 65536), BitVec.ofNat 8 (n / 256), BitVec.ofNat 8 n]

/-- A four-byte field, most significant byte first (R179). -/
def be4 (n : Nat) : List Byte :=
  [BitVec.ofNat 8 (n / 16777216), BitVec.ofNat 8 (n / 65536), BitVec.ofNat 8 (n / 256), BitVec.ofNat 8 n]

/-- A signed three-byte field, two's complement (R179). -/
def signed3 (x : Int) : List Byte := be3 (BitVec.ofInt 24 x).toNat

/-- The bytes of a two-byte field. -/
def halfBytes (h : Half) : List Byte := [h.extractLsb' 8 8, h.extractLsb' 0 8]

/-- A two-byte field read from its bytes, most significant first (R179). -/
def half (hi lo : Byte) : Half := hi ++ lo

/-- The six bytes of a needle set, needles 0 to 7 in byte 0 (R179). -/
def setBytes (m : NeedleSet) : List Byte :=
  [m.extractLsb' 0 8, m.extractLsb' 8 8, m.extractLsb' 16 8, m.extractLsb' 24 8, m.extractLsb' 32 8, m.extractLsb' 40 8]

/-- A needle set read from its six bytes (R179). -/
def needleSet (b0 b1 b2 b3 b4 b5 : Byte) : NeedleSet := b5 ++ b4 ++ b3 ++ b2 ++ b1 ++ b0

/-- An optional item in a one-byte field, 255 when absent (R179). -/
def opt1 : Option Nat → List Byte
  | none => [255]
  | some n => be1 n

/-- An optional item in a two-byte field, 65535 when absent (R179). -/
def opt2 : Option Nat → List Byte
  | none => [255, 255]
  | some n => be2 n

/-- A set-or-clear item. -/
def boolBytes (b : Bool) : List Byte := [boolCode b]

/-- An optional needle set: a presence byte, then six bytes that are 0 when it is absent (R179). -/
def optSet : Option NeedleSet → List Byte
  | none => [0, 0, 0, 0, 0, 0, 0]
  | some m => 1 :: setBytes m

/-- A set of slots in one byte, bits 6 and 7 zero (R179). -/
def slotSetBytes (m : SlotSet) : List Byte := [m.setWidth 8]

/-- A head slot or NONE (R180: 255 stands for NONE). -/
def slotBytes (o : Option SlotId) : List Byte := opt1 (o.map Fin.val)

/-- A set of flags in two bytes (R179). Bits 12 to 15, which no flag has, are 0: DESIGN CHOICE, unsafe (log 39). -/
def flagBytes (f : FlagSet) : List Byte := halfBytes (f.setWidth 16)

/-! ### CRC and framing (R162, R180) -/

/-- One message bit taken into the CRC register (R162). -/
def crcBit (r : Half) (b : Bool) : Half :=
  if r.msb != b then (r <<< 1) ^^^ 4129#16 else r <<< 1

/-- One byte taken into the CRC register, most significant bit first (R162). -/
def crcByte (r : Half) (b : Byte) : Half :=
  [7, 6, 5, 4, 3, 2, 1, 0].foldl (fun r i => crcBit r (b.getLsbD i)) r

/-- The CRC of a list of bytes, from a register of all ones (R162). -/
def crc (bytes : List Byte) : Half := bytes.foldl crcByte 65535#16

/-- The start delimiter (R180). -/
def startByte : Byte := 195

/-- The bytes the CRC covers: type, length and payload (R161). -/
def covered (typ : Byte) (payload : List Byte) : List Byte := typ :: BitVec.ofNat 8 payload.length :: payload

/-- The bytes of a whole frame (R180). -/
def frameBytes (typ : Byte) (payload : List Byte) : List Byte :=
  startByte :: (covered typ payload ++ halfBytes (crc (covered typ payload)))

/-- Type codes (R180, section 10.4). -/
def typeCycle : Byte := 1
/-- Type code of MGMT (R180). -/
def typeMgmt : Byte := 2
/-- Type code of STATUS (R180). -/
def typeStatus : Byte := 129
/-- Type code of REPLY (R180). -/
def typeReply : Byte := 130
/-- Type code of a head frame (section 10.4). -/
def typeHead : Byte := 16
/-- Type code of a module return (section 10.4). -/
def typeReturn : Byte := 17

/-! ### Frames the part sends -/

/-- CYCLE payload (Table 10-3). -/
def cyclePayload (seq : Half) (run : Byte) (speed : Half) : List Byte := halfBytes seq ++ run :: halfBytes speed

/-- MGMT payload: tag, request code, arguments (R180). -/
def mgmtPayload (tag code : Byte) (args : List Byte) : List Byte := tag :: code :: args

/-- STATUS payload (Table 10-4). -/
def Status.payload (t : Status) : List Byte :=
  halfBytes t.seq ++ [kindSentCode t.kind, t.state.code, t.phase.code, t.cause.code, t.link.code]
    ++ halfBytes (t.flags.setWidth 16 ||| (if t.attention then 32768#16 else 0))
    ++ be1 t.dwell ++ be1 t.ci.val ++ be1 t.repairs

/-- The bytes a return frame puts on the line (R167, R175, R180). -/
def ReturnFrame.bytes : ReturnFrame → List Byte
  | .status t => frameBytes typeStatus t.payload
  | .reply tag code result data => frameBytes typeReply (tag :: code :: result.code :: data)
  | .echo b => b

/-- A lane part of a head frame (Table 10-11). -/
def LanePart.bytes (p : LanePart) : List Byte := be1 p.slot.val ++ be2 p.pos ++ setBytes p.down ++ boolBytes p.trim

/-- The query fields of a head frame; with no query the slot and item are all ones and the marker is 0 (R179, log 13). -/
def queryBytes : Option QueryPart → List Byte
  | none => [255, 255, 0]
  | some q => be1 q.slot.val ++ be1 q.item ++ be1 q.marker

/-- Head frame payload (Table 10-11). -/
def HeadFrame.payload (f : HeadFrame) : List Byte :=
  halfBytes f.seq ++ [f.kind.code ||| (if f.kind = .wake then 128 else 0)] ++ be1 f.parts.length
    ++ f.parts.flatMap LanePart.bytes ++ slotBytes f.feedSlot ++ be2 f.feed ++ queryBytes f.query

/-- The bytes of a head frame on the head link (section 10.4). -/
def HeadFrame.bytes (f : HeadFrame) : List Byte := frameBytes typeHead f.payload

/-! ### Module returns (Table 10-12, R184) -/

/-- Payload of a module return (Table 10-12). -/
def ModuleReturn.payload (r : ModuleReturn) : List Byte :=
  be1 r.slot.val ++ halfBytes r.seq ++ [moduleStateCode (some r.state)] ++ setBytes r.missing
    ++ (match r.answer with
        | none => [0, 0, 0]
        | some (m, d) => be1 m ++ halfBytes d)

/-- The bytes of a module return on the head link. -/
def ModuleReturn.bytes (r : ModuleReturn) : List Byte := frameBytes typeReturn r.payload

/-- The query answer of a return: a marker of 0 or above 15 is none (R184). -/
def decodeAnswer (marker : Byte) (data : Half) : Option (Nat × Half) :=
  if 1 ≤ marker.toNat ∧ marker.toNat ≤ 15 then some (marker.toNat, data) else none

/-- A module return read from a payload, or nothing when its length is not 13 or its slot is above 5 (R183, R184). -/
def decodeReturn : List Byte → Option ModuleReturn
  | [sl, s1, s0, st, m0, m1, m2, m3, m4, m5, mk, d1, d0] =>
    if h : sl.toNat < 6 then
      some { slot := ⟨sl.toNat, h⟩, seq := half s1 s0, state := if st = 1 then .ready else .notReady,
             missing := needleSet m0 m1 m2 m3 m4 m5, answer := decodeAnswer mk (half d1 d0) }
    else none
  | _ => none

end Sys2Proof.Machine
end

