-- ==== Sys2Proof/Machine/Protocol.lean ====
section
/-!
DEFINITION. Management requests as bytes: the codes and argument layouts of Tables 10-5, 10-6 and 10-7 in both directions.
R165 answers UNKNOWN for a code the table does not name and FORMAT for an argument length it does not give.
-/

namespace Sys2Proof.Machine

/-- Request code (Table 10-5). -/
def Request.code : Request → Byte
  | .openPattern _ _ => 16
  | .appendSegments _ _ _ => 17
  | .closePattern _ => 18
  | .freePattern _ => 19
  | .getPattern _ => 20
  | .readSegments _ _ _ => 21
  | .writePanel _ _ => 32
  | .readPanel _ => 33
  | .setLast _ => 34
  | .run => 35
  | .pause => 36
  | .resetQueue => 37
  | .getQueue => 38
  | .setNeedleSet _ _ => 48
  | .getNeedleSet _ => 49
  | .getLane _ => 50
  | .setInterlock _ _ _ => 64
  | .getInterlock => 65
  | .setBand _ _ _ => 66
  | .getBand => 67
  | .setSlotMap _ _ => 80
  | .setPresence _ _ => 81
  | .setLimits _ _ _ => 82
  | .linkStart => 83
  | .linkStop => 84
  | .headQuery _ _ => 85
  | .getLink => 86
  | .readHistory => 87
  | .reserveNeedle _ _ => 96
  | .restoreNeedle _ _ => 97
  | .lockNeedle _ _ => 98
  | .getNeedles _ => 99
  | .readRepairs _ => 100
  | .retireRepairs _ => 101
  | .tallyControl _ => 112
  | .readTally => 113
  | .setMark _ _ _ _ => 114
  | .readFlags => 128
  | .clearFlags _ => 129
  | .setNotice _ => 130
  | .setConfig _ _ _ => 131
  | .getConfig => 132
  | .setCompensation _ _ _ => 133
  | .getCompensation _ => 134
  | .setMode _ => 135
  | .lineReset => 136
  | .identify => 137

/-- The six bytes of a segment record as carried (Table 10-6). -/
def segmentBytes (w : SegmentWire) : List Byte := w.kind :: halfBytes w.count ++ [w.dx, w.dy, w.mode]

/-- The nineteen bytes of a panel descriptor as carried (Table 10-7). -/
def panelBytes (w : PanelWire) : List Byte :=
  w.patterns[0] :: halfBytes w.origins[0] ++ w.patterns[1] :: halfBytes w.origins[1]
    ++ w.patterns[2] :: halfBytes w.origins[2] ++ w.patterns[3] :: halfBytes w.origins[3]
    ++ [w.feedLane, w.material] ++ halfBytes w.repeats ++ halfBytes w.gap ++ [w.flags]

/-- Four two-byte fields, lane 0 first. -/
def halves4 (v : Vector Half 4) : List Byte := halfBytes v[0] ++ halfBytes v[1] ++ halfBytes v[2] ++ halfBytes v[3]

/-- The argument bytes of a request (Table 10-5). -/
def Request.args : Request → List Byte
  | .openPattern n pages => [n, pages]
  | .appendSegments n first records => n :: halfBytes first ++ records.flatMap segmentBytes
  | .closePattern n => [n]
  | .freePattern n => [n]
  | .getPattern n => [n]
  | .readSegments n first number => n :: halfBytes first ++ [number]
  | .writePanel slot panel => slot :: panelBytes panel
  | .readPanel slot => [slot]
  | .setLast slot => [slot]
  | .run => []
  | .pause => []
  | .resetQueue => []
  | .getQueue => []
  | .setNeedleSet k needles => k :: setBytes needles
  | .getNeedleSet k => [k]
  | .getLane lane => [lane]
  | .setInterlock before built rests => [before, built, rests]
  | .getInterlock => []
  | .setBand row ceiling dmax => row :: halfBytes ceiling ++ halves4 dmax
  | .getBand => []
  | .setSlotMap slots feed => [slots[0], slots[1], slots[2], slots[3], feed]
  | .setPresence lane needles => lane :: setBytes needles
  | .setLimits lane xmin xmax => lane :: halfBytes xmin ++ halfBytes xmax
  | .linkStart => []
  | .linkStop => []
  | .headQuery slot item => [slot, item]
  | .getLink => []
  | .readHistory => []
  | .reserveNeedle lane needle => [lane, needle]
  | .restoreNeedle lane needle => [lane, needle]
  | .lockNeedle lane needle => [lane, needle]
  | .getNeedles lane => [lane]
  | .readRepairs n => [n]
  | .retireRepairs k => [k]
  | .tallyControl bits => [bits]
  | .readTally => []
  | .setMark selection metreValue panelValue action =>
    selection :: halfBytes metreValue ++ halfBytes panelValue ++ [action]
  | .readFlags => []
  | .clearFlags flags => halfBytes flags
  | .setNotice flags => halfBytes flags
  | .setConfig item lane value => item :: lane :: halfBytes value
  | .getConfig => []
  | .setCompensation material sx sy => material :: halves4 sx ++ halfBytes sy
  | .getCompensation material => [material]
  | .setMode mode => [mode]
  | .lineReset => []
  | .identify => []

/-- The request can be carried: APPEND_SEGMENTS has one to eight records (R11). -/
def Request.wellFormed : Request → Bool
  | .appendSegments _ _ records => decide (1 ≤ records.length ∧ records.length ≤ 8)
  | _ => true

/-- What the Management Unit makes of a code and its argument bytes (R165). -/
inductive Parsed where
  | unknown
  | format
  | request (r : Request)
  deriving DecidableEq, Repr

/-- Segment records read from argument bytes, six bytes each; nothing when bytes are left over. -/
def parseSegments : List Byte → Option (List SegmentWire)
  | [] => some []
  | k :: c1 :: c0 :: dx :: dy :: m :: rest => (parseSegments rest).map (⟨k, half c1 c0, dx, dy, m⟩ :: ·)
  | _ => none

/-- The arguments of APPEND_SEGMENTS: 3 + 6k bytes with k from 1 to 8, or FORMAT (R181). -/
def parseAppend : List Byte → Parsed
  | n :: f1 :: f0 :: rest =>
    match parseSegments rest with
    | some records =>
      if 1 ≤ records.length ∧ records.length ≤ 8 then .request (.appendSegments n (half f1 f0) records) else .format
    | none => .format
  | _ => .format

/-- The arguments of WRITE_PANEL (Table 10-7), or FORMAT. -/
def parsePanel : List Byte → Parsed
  | [i, p0, o01, o00, p1, o11, o10, p2, o21, o20, p3, o31, o30, fl, mc, r1, r0, g1, g0, fb] =>
    .request (.writePanel i ⟨#v[p0, p1, p2, p3], #v[half o01 o00, half o11 o10, half o21 o20, half o31 o30], fl, mc,
      half r1 r0, half g1 g0, fb⟩)
  | _ => .format

/-- A request without arguments, or FORMAT. -/
def parse0 (r : Request) : List Byte → Parsed
  | [] => .request r
  | _ => .format

/-- A request of one argument byte, or FORMAT. -/
def parse1 (r : Byte → Request) : List Byte → Parsed
  | [a] => .request (r a)
  | _ => .format

/-- A request of two argument bytes, or FORMAT. -/
def parse2 (r : Byte → Byte → Request) : List Byte → Parsed
  | [a, b] => .request (r a b)
  | _ => .format

/-- A request of three argument bytes, or FORMAT. -/
def parse3 (r : Byte → Byte → Byte → Request) : List Byte → Parsed
  | [a, b, c] => .request (r a b c)
  | _ => .format

/-- The arguments of READ_SEGMENTS, or FORMAT. -/
def parseRead : List Byte → Parsed
  | [n, f1, f0, k] => .request (.readSegments n (half f1 f0) k)
  | _ => .format

/-- A request of one byte and a needle set, or FORMAT. -/
def parseSet (r : Byte → NeedleSet → Request) : List Byte → Parsed
  | [a, b0, b1, b2, b3, b4, b5] => .request (r a (needleSet b0 b1 b2 b3 b4 b5))
  | _ => .format

/-- The arguments of SET_BAND, or FORMAT. -/
def parseBand : List Byte → Parsed
  | [k, c1, c0, a1, a0, b1, b0, d1, d0, e1, e0] =>
    .request (.setBand k (half c1 c0) #v[half a1 a0, half b1 b0, half d1 d0, half e1 e0])
  | _ => .format

/-- The arguments of SET_SLOT_MAP, or FORMAT. -/
def parseSlotMap : List Byte → Parsed
  | [a, b, c, d, f] => .request (.setSlotMap #v[a, b, c, d] f)
  | _ => .format

/-- The arguments of SET_LIMITS, or FORMAT. -/
def parseLimits : List Byte → Parsed
  | [l, a1, a0, b1, b0] => .request (.setLimits l (half a1 a0) (half b1 b0))
  | _ => .format

/-- The arguments of SET_MARK, or FORMAT. -/
def parseMark : List Byte → Parsed
  | [s, m1, m0, p1, p0, a] => .request (.setMark s (half m1 m0) (half p1 p0) a)
  | _ => .format

/-- A request of one two-byte field, or FORMAT. -/
def parseHalf (r : Half → Request) : List Byte → Parsed
  | [a1, a0] => .request (r (half a1 a0))
  | _ => .format

/-- The arguments of SET_CONFIG, or FORMAT. -/
def parseConfig : List Byte → Parsed
  | [i, l, v1, v0] => .request (.setConfig i l (half v1 v0))
  | _ => .format

/-- The arguments of SET_COMPENSATION, or FORMAT. -/
def parseComp : List Byte → Parsed
  | [c, a1, a0, b1, b0, d1, d0, e1, e0, y1, y0] =>
    .request (.setCompensation c #v[half a1 a0, half b1 b0, half d1 d0, half e1 e0] (half y1 y0))
  | _ => .format

/-- A request code with its argument bytes (R165, Table 10-5). -/
def parseRequest (code : Byte) (args : List Byte) : Parsed :=
  match code.toNat with
  | 16 => parse2 .openPattern args
  | 17 => parseAppend args
  | 18 => parse1 .closePattern args
  | 19 => parse1 .freePattern args
  | 20 => parse1 .getPattern args
  | 21 => parseRead args
  | 32 => parsePanel args
  | 33 => parse1 .readPanel args
  | 34 => parse1 .setLast args
  | 35 => parse0 .run args
  | 36 => parse0 .pause args
  | 37 => parse0 .resetQueue args
  | 38 => parse0 .getQueue args
  | 48 => parseSet .setNeedleSet args
  | 49 => parse1 .getNeedleSet args
  | 50 => parse1 .getLane args
  | 64 => parse3 .setInterlock args
  | 65 => parse0 .getInterlock args
  | 66 => parseBand args
  | 67 => parse0 .getBand args
  | 80 => parseSlotMap args
  | 81 => parseSet .setPresence args
  | 82 => parseLimits args
  | 83 => parse0 .linkStart args
  | 84 => parse0 .linkStop args
  | 85 => parse2 .headQuery args
  | 86 => parse0 .getLink args
  | 87 => parse0 .readHistory args
  | 96 => parse2 .reserveNeedle args
  | 97 => parse2 .restoreNeedle args
  | 98 => parse2 .lockNeedle args
  | 99 => parse1 .getNeedles args
  | 100 => parse1 .readRepairs args
  | 101 => parse1 .retireRepairs args
  | 112 => parse1 .tallyControl args
  | 113 => parse0 .readTally args
  | 114 => parseMark args
  | 128 => parse0 .readFlags args
  | 129 => parseHalf .clearFlags args
  | 130 => parseHalf .setNotice args
  | 131 => parseConfig args
  | 132 => parse0 .getConfig args
  | 133 => parseComp args
  | 134 => parse1 .getCompensation args
  | 135 => parse1 .setMode args
  | 136 => parse0 .lineReset args
  | 137 => parse0 .identify args
  | _ => .unknown

end Sys2Proof.Machine
end

