-- ==== Sys2Proof/Machine/Ops.lean ====
section
/-!
DEFINITION. The named operations over the parts' stores: pattern memory, the free-page list, the pattern memory arbiter, the
return direction, the head of the management queue, and the pause request. A block has no exception entry: an error is a
flag, a result code or a pause.
-/

namespace Sys2Proof.Machine

/-- The lanes in ascending order. -/
def allLanes : List LaneId := [0, 1, 2, 3]

/-- The head slots in ascending order. -/
def allSlots : List SlotId := [0, 1, 2, 3, 4, 5]

/-- The needles of a bar in ascending order (R132). -/
def allNeedles : List NeedleId := List.finRange 48

/-! ### Pattern memory (R1, R4) -/

/-- The record a location holds; an unlisted location reads as one fixed record (log 9). -/
def memRead : List (Nat × Segment) → Nat → Segment
  | [], _ => Segment.blank
  | (k, g) :: rest, a => if k = a then g else memRead rest a

/-- A record written to a location, keeping the canonical form. -/
def memWrite : List (Nat × Segment) → Nat → Segment → List (Nat × Segment)
  | [], a, v => if v = Segment.blank then [] else [(a, v)]
  | (k, g) :: rest, a, v =>
    if a < k then (if v = Segment.blank then (k, g) :: rest else (a, v) :: (k, g) :: rest)
    else if a = k then (if v = Segment.blank then rest else (a, v) :: rest)
    else (k, g) :: memWrite rest a v

/-- Every location of the list lies above a bound. -/
def memAbove (b : Nat) : List (Nat × Segment) → Bool
  | [] => true
  | (k, _) :: rest => decide (b < k) && memAbove b rest

/-- The canonical form: locations strictly rising, no record equal to what an unlisted location reads as. -/
def memWf : List (Nat × Segment) → Bool
  | [] => true
  | (k, g) :: rest => decide (g ≠ Segment.blank) && memAbove k rest && memWf rest

/-- The location of segment `i` of a page list (R4). -/
def locate (pages : List Nat) (i : Nat) : Nat := pages.getD (i / 32) 0 * 32 + i % 32

/-! ### The free-page list (R5) -/

/-- A page put into a rising list of pages. -/
def insertPage : Nat → List Nat → List Nat
  | p, [] => [p]
  | p, q :: rest => if p ≤ q then p :: q :: rest else q :: insertPage p rest

/-- Pages returned to the free-page list (R5). -/
def returnPages (pages free : List Nat) : List Nat := pages.foldr insertPage free

/-! ### The directory -/

/-- One directory entry replaced. -/
def PatternStore.setEntry (st : PatternStore) (n : PatternId) (e : DirEntry) : PatternStore :=
  { st with dir := st.dir.set n e }

/-- The pin count of one pattern changed by a function (R6). -/
def PatternStore.changePins (f : Nat → Nat) (n : PatternId) (st : PatternStore) : PatternStore :=
  st.setEntry n { st.dir[n] with pins := f st.dir[n].pins }

/-- The pin count of every lane reference of a descriptor changed (R6, R31). -/
def PatternStore.changeAllPins (f : Nat → Nat) (d : Descriptor) (st : PatternStore) : PatternStore :=
  allLanes.foldl (fun st l => match d.patterns[l] with
    | some n => st.changePins f n
    | none => st) st

/-! ### The arbiter (R7, R8, R9) -/

/-- The first waiting requester in circular order after the one granted last (R8). -/
def nextGrant (waiting : Vector (Option Nat) 5) (last : Requester) : Option Requester :=
  [last + 1, last + 2, last + 3, last + 4, last + 5].find? (fun r => waiting[r].isSome)

/-- With the port free, the arbiter grants a waiting request (R7, R8). -/
def PatternStore.grant (st : PatternStore) : PatternStore :=
  match st.inFlight, nextGrant st.waiting st.lastGrant with
  | none, some r =>
    { st with inFlight := some ⟨r, st.waiting[r].getD 0, false⟩, waiting := st.waiting.set r none, lastGrant := r }
  | _, _ => st

/-- An access request: granted at once when the port is free and no other waits, else left waiting (R7). -/
def PatternStore.request (who : Requester) (addr : Nat) (st : PatternStore) : PatternStore :=
  { st with waiting := st.waiting.set who (some addr) }.grant

/-- The access in flight completes: the port is free and grants the next waiting request (R7). -/
def PatternStore.complete (st : PatternStore) : PatternStore := { st with inFlight := none }.grant

/-- A requester's request is cancelled: withdrawn while it waits, marked while it is in flight (R9). -/
def PatternStore.cancel (who : Requester) (st : PatternStore) : PatternStore :=
  { st with
    waiting := st.waiting.set who none
    inFlight := match st.inFlight with
      | some a => if a.who = who then some { a with cancelled := true } else some a
      | none => none }

/-- The requester of a lane (R8). -/
def laneRequester (l : LaneId) : Requester := l.castSucc

/-- The requester of the Management Unit (R8). -/
def mgmtRequester : Requester := 4

/-! ### The return direction (R167) -/

/-- A return frame is produced: it is sent at once, or waits behind the frame being sent (R167). -/
def LinePort.produce (f : ReturnFrame) (p : LinePort) : LinePort :=
  match p.sending with
  | none => { p with sending := some f }
  | some _ => { p with waiting := p.waiting ++ [f] }

/-- A return frame is produced (R167). -/
def produce (f : ReturnFrame) (s : State) : State := { s with line := s.line.produce f }

/-- A downward frame finds room on the return direction (R161). -/
def State.hasRoom (s : State) : Bool := decide (s.line.waiting.length < Config.returnRoom)

/-- The REPLY frame of a request is produced with its tag and code (R165, R167). -/
def reply (tag code : Byte) (a : Answer) (s : State) : State := produce (.reply tag code a.result a.data) s

/-- The request at the head of the management queue ends: its REPLY is produced and it leaves the queue (R166). -/
def finishHead (a : Answer) (s : State) : State :=
  match s.mgmt.queue with
  | [] => s
  | e :: rest => { reply e.tag e.req.code a s with mgmt := ⟨rest, none⟩ }

/-! ### Pause requests (R25) -/

/-- A pause request reaches the Sequencer: RUNNING becomes PAUSED with the cause, and every other state is left (R25). -/
def Sequencer.pauseRequest (c : Cause) (q : Sequencer) : Sequencer :=
  if q.state = .running then { q with state := .paused, cause := c } else q

/-- A pause request reaches the Sequencer (R25). -/
def pauseRequest (c : Cause) (s : State) : State := { s with seq := s.seq.pauseRequest c }

/-! ### Fitted lanes and mapped slots (R45, R115) -/

/-- The lane has a head slot (R45). -/
def State.fitted (s : State) (l : LaneId) : Bool := s.link.slotLane[l].isSome

/-- The set that holds one slot. -/
def slotBit (k : SlotId) : SlotSet := 1#6 <<< k.val

/-- The set of an assignment. -/
def assignedBit : Option SlotId → SlotSet
  | none => 0
  | some k => slotBit k

/-- The mapped slots (R115). -/
def HeadLink.mapped (h : HeadLink) : SlotSet :=
  assignedBit h.slotLane[0] ||| assignedBit h.slotLane[1] ||| assignedBit h.slotLane[2] ||| assignedBit h.slotLane[3]
    ||| assignedBit h.slotFeed

/-- A slot belongs to a set of slots. -/
def inSlots (m : SlotSet) (k : SlotId) : Bool := m.getLsbD k.val

/-- The lane a slot is assigned to, if any (R122). -/
def HeadLink.laneOfSlot (h : HeadLink) (k : SlotId) : Option LaneId := allLanes.find? (fun l => h.slotLane[l] == some k)

end Sys2Proof.Machine
end

