-- ==== Sys2Proof/Machine/Needles.lean ====
section
/-!
DEFINITION. The Needle Table and Repair Log (Chapter 7): thread-absent reports, presence changes, the reservation and the requests
of the operator's station.
-/

namespace Sys2Proof.Machine

/-- The entry of a needle (R130). -/
def NeedleTable.entry (t : NeedleTable) (l : LaneId) (n : NeedleId) : NeedleEntry := t.entries[l][n]

/-- One needle entry replaced. -/
def NeedleTable.setEntry (t : NeedleTable) (l : LaneId) (n : NeedleId) (e : NeedleEntry) : NeedleTable :=
  { t with entries := t.entries.set l (t.entries[l].set n e) }

/-- The reservation is cleared if it names a needle (R137, R143, R146). -/
def NeedleTable.release (t : NeedleTable) (l : LaneId) (n : NeedleId) : NeedleTable :=
  if t.reservation = some (l, n) then { t with reservation := none } else t

/-- A break count raised by one, saturating at 255 (R130). -/
def raiseBreaks (n : Nat) : Nat := if n < 255 then n + 1 else n

/-- The newest history entry with a cycle sequence (R113). -/
def lookupHistory (history : List HistoryEntry) (seq : Half) : Option HistoryEntry := history.find? (fun e => e.seq == seq)

/-- The position part copied from a history entry for a lane (R139). -/
def HistoryEntry.position (e : HistoryEntry) (l : LaneId) : Position :=
  { kind := e.kind, serial := e.serial, phase := e.phase, repeatIdx := e.repeatIdx, stitchIdx := e.stitchIdx, yFed := e.yFed,
    pos := e.pos[l] }

/-- The repair record of a break is appended, or lost when the log is full (R134, R135, R136). A kept record asks for a pause under
break action HOLD; a lost one sets REPAIR_LOST and asks for a pause whatever the break action. -/
def logRepair (r : Repair) (s : State) : State :=
  if s.needles.log.length < Config.repairDepth then
    let s1 := { s with needles := { s.needles with log := s.needles.log ++ [r] } }
    match s.config.breakAction[r.lane] with
    | .cont => s1
    | .hold => pauseRequest .break s1
  else pauseRequest .repairFull (setFlag .repairLost s)

/-- One needle of a thread-absent report (R133 to R137, R143); `pos` is the result of the one history lookup of the report. -/
def reportNeedle (l : LaneId) (seq : Half) (pos : Option Position) (n : NeedleId) (s : State) : State :=
  let e := s.needles.entry l n
  match e.state with
  | .absent => s
  | .engaged =>
    logRepair ⟨l, n, seq, pos⟩
      (setFlag .threadBreak
        { s with needles := (s.needles.setEntry l n ⟨.broken, raiseBreaks e.breaks⟩).release l n })
  | .broken | .locked => { s with needles := s.needles.release l n }

/-- A thread-absent report: its needles in ascending order, with one history lookup (R132). -/
def takeThreadReport (l : LaneId) (missing : NeedleSet) (seq : Half) (s : State) : State :=
  let pos := (lookupHistory s.asm.history seq).map (fun e => e.position l)
  allNeedles.foldl (fun s n => if missing.getLsbD n.val then reportNeedle l seq pos n s else s) s

/-- The entry of a needle after a presence change (R131). -/
def presenceEntry (was now : Bool) (e : NeedleEntry) : NeedleEntry :=
  match was, now with
  | false, true => { e with state := .engaged }
  | true, false => { e with state := .absent }
  | _, _ => e

/-- The Needle Table follows a presence change of a lane (R131). -/
def NeedleTable.followPresence (l : LaneId) (old new : NeedleSet) (t : NeedleTable) : NeedleTable :=
  { t with
    entries := t.entries.set l
      (Vector.ofFn (fun n : Fin 48 => presenceEntry (old.getLsbD n.val) (new.getLsbD n.val) t.entries[l][n]))
    reservation := match t.reservation with
      | some (l', n) => if l' = l ∧ old.getLsbD n.val ∧ ¬ new.getLsbD n.val then none else some (l', n)
      | none => none }

/-- The needles of a lane that are ENGAGED, as a set (R107). -/
def engagedSet (v : Vector NeedleEntry 48) : NeedleSet :=
  allNeedles.foldl (fun m n => if v[n].state = .engaged then m ||| (1#48 <<< n.val) else m) 0#48

/-! ### Requests (R141 to R148) -/

/-- RESERVE_NEEDLE (R144). -/
def doReserveNeedle (lane needle : Byte) (s : State) : State × Answer :=
  match laneOf lane, needleOf needle with
  | some l, some n =>
    let e := s.needles.entry l n
    if e.state = .absent then (s, ⟨.absent, []⟩)
    else ({ s with needles := { s.needles with reservation := some (l, n) } }, ⟨.done, [e.state.code] ++ be1 e.breaks⟩)
  | _, _ => (s, ⟨.range, []⟩)

/-- RESTORE_NEEDLE (R145): its checks in order; the reservation is cleared in each of the four cases. -/
def doRestoreNeedle (lane needle : Byte) (s : State) : State × Answer :=
  match laneOf lane, needleOf needle with
  | some l, some n =>
    let e := s.needles.entry l n
    let cleared := { s with needles := { s.needles with reservation := none } }
    match e.state with
    | .absent => (cleared, ⟨.absent, []⟩)
    | .engaged => (cleared, ⟨.done, []⟩)
    | _ =>
      if s.needles.reservation = some (l, n) then
        ({ s with needles := { s.needles.setEntry l n { e with state := .engaged } with reservation := none } }, ⟨.done, []⟩)
      else (cleared, ⟨.lost, []⟩)
  | _, _ => (s, ⟨.range, []⟩)

/-- LOCK_NEEDLE (R146). -/
def doLockNeedle (lane needle : Byte) (s : State) : State × Answer :=
  match laneOf lane, needleOf needle with
  | some l, some n =>
    let e := s.needles.entry l n
    match e.state with
    | .absent => (s, ⟨.absent, []⟩)
    | _ => ({ s with needles := (s.needles.setEntry l n { e with state := .locked }).release l n }, ⟨.done, []⟩)
  | _, _ => (s, ⟨.range, []⟩)

/-- The reservation as two one-byte items, 255 when absent (R179). -/
def reservationBytes : Option (LaneId × NeedleId) → List Byte
  | none => [255, 255]
  | some (l, n) => be1 l.val ++ be1 n.val

/-- GET_NEEDLES (R148): Table 7-7. -/
def doGetNeedles (lane : Byte) (s : State) : State × Answer :=
  match laneOf lane with
  | some l =>
    (s, ⟨.done, be1 l.val ++ s.needles.entries[l].toList.map (fun e => e.state.code)
      ++ s.needles.entries[l].toList.map (fun e => BitVec.ofNat 8 e.breaks) ++ [s.config.breakAction[l].code]
      ++ reservationBytes s.needles.reservation ++ be1 s.needles.log.length⟩)
  | none => (s, ⟨.range, []⟩)

/-- The position part of a repair record; all bytes 0 when it is absent (Table 10-9). -/
def positionBytes : Option Position → List Byte
  | none => List.replicate 16 0
  | some p => [1, p.kind.code] ++ halfBytes p.serial ++ [p.phase.code] ++ be2 p.repeatIdx ++ be3 p.stitchIdx ++ be4 p.yFed
      ++ be2 p.pos

/-- A repair record in a reply (Table 10-9). -/
def Repair.bytes (r : Repair) : List Byte :=
  be1 r.lane.val ++ be1 r.needle.val ++ halfBytes r.seq ++ positionBytes r.position

/-- READ_REPAIRS (R141). -/
def doReadRepairs (n : Byte) (s : State) : State × Answer :=
  if n.toNat < 1 ∨ 4 < n.toNat then (s, ⟨.range, []⟩)
  else if s.needles.log = [] then (s, ⟨.empty, []⟩)
  else
    let got := s.needles.log.take n.toNat
    (s, ⟨if got.length = n.toNat then .done else .clamped,
      be1 s.needles.log.length ++ be1 got.length ++ got.flatMap Repair.bytes⟩)

/-- RETIRE_REPAIRS (R142). -/
def doRetireRepairs (k : Byte) (s : State) : State × Answer :=
  let removed := min k.toNat s.needles.log.length
  let rest := s.needles.log.drop k.toNat
  ({ s with needles := { s.needles with log := rest } },
    ⟨if k.toNat ≤ s.needles.log.length then .done else .clamped, be1 removed ++ be1 rest.length⟩)

end Sys2Proof.Machine
end

