-- ==== Sys2Proof/Machine/Lanes.lean ====
section
/-!
DEFINITION. The Lane Expanders (Chapter 3): the segment buffer and its fetches, the walk, the build of a ready record, and what
a lane does with a panel handed to it, a consumption report and a phase notice.
-/

namespace Sys2Proof.Machine

/-! ### The build (R58 to R66, R89) -/

/-- What a finishing build reads outside the lane (R58): the lane's presence mask and travel limits, the needle set table, the
interlock matrix and the segment count of the lane's pattern. -/
structure BuildEnv where
  presence : NeedleSet
  limits : Limits
  sets : Vector NeedleSet 32
  interlock : Vector Nat 16
  segCount : Nat
  deriving DecidableEq, Repr

/-- A record on its way through a build, with the pattern coordinates it leaves and whether a clamp was found (R88, R89). -/
structure Draft where
  cls : RecClass
  target : Option Nat
  mask : NeedleSet
  feed : Option Nat
  repeatEnd : Bool
  x : Int
  y : Nat
  clamp : Bool
  deriving DecidableEq, Repr

/-- Row and column of the interlock matrix for a class; the matrix is held row by row (R90, R92). -/
def SegKind.index : SegKind → Fin 4
  | .stitch => 0 | .jump => 1 | .tack => 2 | .trim => 3

/-- Index of the entry "record before, record being built" (R90). -/
def interlockIndex (before built : Fin 4) : Fin 16 := ⟨4 * before.val + built.val, by omega⟩

/-- The class a record counts as in the interlock matrix and as last class; HOLD counts as JUMP (R64, R65). -/
def RecClass.counted : RecClass → SegKind
  | .stitch => .stitch | .jump => .jump | .tack => .tack | .trim => .trim | .hold => .jump

/-- The record class of a segment kind (R61). -/
def SegKind.recClass : SegKind → RecClass
  | .stitch => .stitch | .jump => .jump | .tack => .tack | .trim => .trim

/-- The effective count of a segment: 1 for TRIM, else the stored count (R49). -/
def Segment.effective (g : Segment) : Nat := if g.kind = .trim then 1 else g.count

/-- The needles a needle mode names (R63). -/
def modeNeedles (sets : Vector NeedleSet 32) : NeedleMode → NeedleSet
  | .all => BitVec.allOnes 48
  | .set k => sets[k]

/-- The lane walks a pattern: role PATTERN or FEED (R45). -/
def Lane.walks (ln : Lane) : Bool := ln.role == .pattern || ln.role == .feed

/-- A draft of a class with a target, no feed and the coordinates unchanged. -/
def plainDraft (ln : Lane) (cls : RecClass) (target : Option Nat) (mask : NeedleSet) : Draft :=
  { cls := cls, target := target, mask := mask, feed := none, repeatEnd := false, x := ln.x, y := ln.y, clamp := false }

/-- A HOLD record: needles up at the present target, if there is one (R56, R62). A target kept from an earlier panel is taken as it
stands, also outside travel limits narrowed since: DESIGN CHOICE, unsafe (log 36). -/
def holdDraft (ln : Lane) : Draft := plainDraft ln .hold ln.target 0

/-- The base mask of a segment's record: the needles its mode names that are present, for STITCH and TACK (R63). -/
def segmentMask (env : BuildEnv) (g : Segment) : NeedleSet :=
  if g.kind = .stitch ∨ g.kind = .tack then modeNeedles env.sets g.mode &&& env.presence else 0

/-- A BODY record of a pattern lane from its current segment (R61, R62, R66, R89, R54). -/
def bodyDraft (env : BuildEnv) (ln : Lane) (index cycles : Nat) (g : Segment) : Draft :=
  let moves := !(g.kind == .tack || g.kind == .trim)
  let x := if moves then satX ln.x g.dx else ln.x
  let feeds := ln.role == .feed
  { cls := g.kind.recClass
    target := some (compensatedTarget env.limits ln.origin x ln.sx)
    mask := segmentMask env g
    feed := if feeds then some (if moves then recordFeed ln.y g.dy ln.sy else 0) else none
    repeatEnd := feeds && (index + 1 == env.segCount) && (cycles + 1 == g.effective)
    x := x
    y := if feeds && moves then satY ln.y g.dy else ln.y
    clamp := (moves && satXClamps ln.x g.dx) || targetClamps env.limits ln.origin x ln.sx
      || (feeds && moves && satYClamps ln.y g.dy) }

/-- The record a lane builds by its role and phase (Table 3-5). -/
def draft (env : BuildEnv) (ln : Lane) : Draft :=
  if ln.walks then
    match ln.phase, ln.cur with
    | .work .gap, _ => plainDraft ln .jump (some ln.origin) 0
    | .work .tieIn, .record _ _ g =>
      if g.kind = .stitch then plainDraft ln .tack (some ln.origin) (segmentMask env g) else holdDraft ln
    | .work .body, .record i c g => bodyDraft env ln i c g
    | .work .tieOut, _ =>
      match ln.lastMask with
      | some m => plainDraft ln .tack ln.target m
      | none => holdDraft ln
    | .work .trimOut, _ => plainDraft ln .trim ln.target 0
    | _, _ => holdDraft ln
  else holdDraft ln

/-- The build finishes: rests from the interlock matrix, then last class, present target and last stitch mask (R58, R64, R65).
The values of R60 are kept for a discard. -/
def finishBuild (env : BuildEnv) (ln : Lane) : Lane :=
  let d := draft env ln
  { ln with
    x := d.x
    y := d.y
    lastClass := d.cls.counted
    target := if d.target.isSome then d.target else ln.target
    lastMask := if d.cls = .stitch then some d.mask else ln.lastMask
    ready := some { cls := d.cls, target := d.target, mask := d.mask,
                    rests := env.interlock[interlockIndex ln.lastClass.index d.cls.counted.index],
                    feed := d.feed, repeatEnd := d.repeatEnd }
    buildWaiting := false
    undo := some { x := ln.x, y := ln.y, lastClass := ln.lastClass, target := ln.target, lastMask := ln.lastMask } }

/-- A build needs the current segment: any BODY or TIE_IN build of a pattern lane (R58). -/
def Lane.needsSegment (ln : Lane) : Bool := ln.walks && (ln.phase == .work .body || ln.phase == .work .tieIn)

/-- The current segment is present (R49). -/
def Lane.hasSegment (ln : Lane) : Bool :=
  match ln.cur with
  | .record _ _ _ => true
  | _ => false

/-- A build begun now has to wait for its segment (R58). -/
def Lane.mustWait (ln : Lane) : Bool := ln.needsSegment && !ln.hasSegment

/-- A lane begins a build: it finishes at once, or waits for the current segment (R58). -/
def beginBuild (env : BuildEnv) (ln : Lane) : Lane :=
  if ln.mustWait then { ln with buildWaiting := true } else finishBuild env ln

/-- A build begun now sets CLAMP (R88). -/
def buildClamps (env : BuildEnv) (ln : Lane) : Bool := !ln.mustWait && (draft env ln).clamp

/-! ### Consumption and the walk (R53, R54, R55, R84) -/

/-- The ready record has been consumed: it is removed, and a record with a feed counts in the feed lane's repeat index, stitch
index and Y_fed. The record that completes the R-th repeat leaves the repeat index (R54, R55, R84). -/
def Lane.consumed (ln : Lane) : Lane :=
  match ln.ready with
  | none => ln
  | some r =>
    match r.feed with
    | none => { ln with ready := none, undo := none }
    | some f =>
      if r.repeatEnd && ln.repeatIdx + 1 != ln.repeats then
        { ln with ready := none, undo := none, yFed := ln.yFed + f, repeatIdx := ln.repeatIdx + 1, stitchIdx := 0 }
      else { ln with ready := none, undo := none, yFed := ln.yFed + f, stitchIdx := ln.stitchIdx + 1 }

/-- The walk moves on by one cycle; an exhausted segment gives way to the next entry (R53). -/
def Lane.advanceWalk (ln : Lane) : Lane :=
  match ln.cur with
  | .record i c g =>
    if c + 1 = g.effective then { ln with cur := ln.nxt, nxt := .absent } else { ln with cur := .record i (c + 1) g }
  | _ => ln

/-- A build of an ended phase is taken back: a finished record is discarded with the effects of its build, a waiting build is
abandoned (R60). -/
def Lane.discard (ln : Lane) : Lane :=
  match ln.ready, ln.undo with
  | some _, some u =>
    { ln with ready := none, undo := none, x := u.x, y := u.y, lastClass := u.lastClass, target := u.target,
              lastMask := u.lastMask }
  | _, _ => { ln with ready := none, undo := none, buildWaiting := false }

/-- A fetched segment takes the place of the fetch outstanding and keeps its index (R51). -/
def Lane.deliver (g : Segment) (ln : Lane) : Lane :=
  match ln.cur, ln.nxt with
  | .fetch i, _ => { ln with cur := .record i 0 g }
  | _, .fetch i => { ln with nxt := .record i 0 g }
  | _, _ => ln

/-- On entry to BODY the coordinates and the stitch index start at 0 (R55, R59, R75, R77). -/
def Lane.enterPhase (p : PanelPhase) (ln : Lane) : Lane :=
  if p = .body then { ln with phase := .work p, x := 0, y := 0, stitchIdx := 0 } else { ln with phase := .work p }

/-- A lane takes its role and its share of the context with a panel (R48, R84). -/
def Lane.takeJob (j : LaneJob) (ln : Lane) : Lane :=
  { ln with role := j.role, pattern := j.pattern, origin := j.origin, sx := j.sx, sy := j.sy, repeats := j.repeats,
            lastMask := none, repeatIdx := 0, stitchIdx := 0, yFed := 0, ready := none, buildWaiting := false,
            noticeDue := false, undo := none, cur := .absent, nxt := .absent }

/-- A lane enters DONE at the end of a panel (R68). -/
def Lane.enterDone (ln : Lane) : Lane :=
  { ln with phase := .done, role := .none, pattern := none, ready := none, buildWaiting := false, noticeDue := false,
            undo := none, cur := .absent, nxt := .absent }

/-- The lane works a panel: it is neither IDLE nor DONE (R47). -/
def Lane.working (ln : Lane) : Bool :=
  match ln.phase with
  | .work _ => true
  | _ => false

/-- The lane offers its ready record: it is present and no notice is due (R57). -/
def Lane.offers (ln : Lane) : Bool := ln.ready.isSome && !ln.noticeDue

/-! ### Lanes in the machine -/

/-- One lane replaced. -/
def setLane (l : LaneId) (ln : Lane) (s : State) : State := { s with lanes := s.lanes.set l ln }

/-- One lane changed by a function. -/
def onLane (l : LaneId) (f : Lane → Lane) (s : State) : State := setLane l (f s.lanes[l]) s

/-- The segment count of the lane's pattern, from the directory (R50). -/
def State.segCount (s : State) (ln : Lane) : Nat :=
  match ln.pattern with
  | some n => s.store.dir[n].count
  | none => 0

/-- What lane `l`'s builds read outside the lane (R58). -/
def State.buildEnv (s : State) (l : LaneId) : BuildEnv :=
  { presence := s.link.presence[l], limits := s.link.limits[l], sets := s.needleSets, interlock := s.interlock,
    segCount := s.segCount s.lanes[l] }

/-- Lane `l` begins a build, and CLAMP is set if the build finds a clamp (R58, R88). -/
def buildLane (l : LaneId) (s : State) : State :=
  setFlagIf (buildClamps (s.buildEnv l) s.lanes[l]) .clamp (onLane l (beginBuild (s.buildEnv l)) s)

/-- Lane `l` requests segment `i` of its pattern (R50, R4). -/
def requestSegment (l : LaneId) (i : Nat) (s : State) : State :=
  match s.lanes[l].pattern with
  | some n => { s with store := s.store.request (laneRequester l) (locate s.store.dir[n].pages i) }
  | none => s

/-- The panel of lane `l` has ended, and the notice that says so is still in flight to the lane (R68). -/
def State.panelOver (s : State) (l : LaneId) : Bool :=
  match s.reports.notices[l] with
  | some (.panelEnd _) => true
  | _ => false

/-- When the current entry is a record and there is no next entry, the following segment is requested (R50); not once the panel
context that pinned the pattern is gone (R15, log 27). -/
def requestFollowing (l : LaneId) (s : State) : State :=
  if s.panelOver l then s
  else
    match s.lanes[l].cur, s.lanes[l].nxt with
    | .record i _ _, .absent =>
      let j := (i + 1) % s.segCount s.lanes[l]
      requestSegment l j (onLane l (fun ln => { ln with nxt := .fetch j }) s)
    | _, _ => s

/-- Lane `l` empties its segment buffer, cancelling a fetch outstanding (R52). -/
def emptyBuffer (l : LaneId) (s : State) : State :=
  onLane l (fun ln => { ln with cur := .absent, nxt := .absent })
    { s with store := s.store.cancel (laneRequester l) }

/-- Lane `l` is handed a panel (R48): it takes its part, a pattern lane requests segment 0, and the first build begins. -/
def startPanel (l : LaneId) (j : LaneJob) (s : State) : State :=
  let s1 := onLane l (fun ln => (ln.takeJob j).enterPhase j.first) (emptyBuffer l s)
  let s2 := if s1.lanes[l].walks then requestSegment l 0 (onLane l (fun ln => { ln with cur := .fetch 0 }) s1) else s1
  buildLane l s2

/-- Where the consumption report of lane `l` stands. -/
def setConsumption (l : LaneId) (c : Consumption) (s : State) : State :=
  { s with reports := { s.reports with consumption := s.reports.consumption.set l c } }

/-- The phase notice in flight to lane `l`. -/
def setNotice (l : LaneId) (n : Option Notice) (s : State) : State :=
  { s with reports := { s.reports with notices := s.reports.notices.set l n } }

/-- Lane `l`, working a panel, takes its consumption report; `c` says whether its notice came first (R59). The walk moves only
when the lane was in BODY before the report and still is. -/
def consumeLane (l : LaneId) (c : Consumption) (s : State) : State :=
  let ln := s.lanes[l].consumed
  let ln1 := if ln.walks && ln.phase == .work .body && c != .noticed true then ln.advanceWalk else ln
  let s1 := setLane l { ln1 with noticeDue := c == .due } s
  buildLane l (requestFollowing l s1)

/-- Lane `l` takes its consumption report, if one is in flight; in IDLE and DONE it is ignored (R47, R59). -/
def takeLaneReport (l : LaneId) (s : State) : State :=
  match s.reports.consumption[l] with
  | .none => s
  | c =>
    if s.lanes[l].working then consumeLane l c (setConsumption l .none s) else setConsumption l .none s

/-- Lane `l` leaves its phase for another phase of its panel (R59, R60): leaving BODY empties the segment buffer. -/
def switchPhase (l : LaneId) (p : PanelPhase) (s : State) : State :=
  let s1 := if s.lanes[l].phase = .work .body then emptyBuffer l s else s
  onLane l (Lane.enterPhase p) s1

/-- Lane `l` takes a notice of a phase (R59, R60). Before the report, the record it holds stands and no build begins; after it,
a build for another phase is ended and the build for the new phase begins. -/
def takePhase (l : LaneId) (p : PanelPhase) (s : State) : State :=
  if s.reports.consumption[l] = .due then
    if s.lanes[l].phase = .work p then setConsumption l (.noticed false) s
    else switchPhase l p (setConsumption l (.noticed true) s)
  else
    let s1 := onLane l (fun ln => { ln with noticeDue := false }) s
    if s.lanes[l].phase = .work p then s1 else buildLane l (switchPhase l p (onLane l Lane.discard s1))

/-- Lane `l` takes the notice that its panel has ended (R68): a build begun on the completing consumption is ended, or, before
the report, the record is removed with the effects of its build standing and the report will be ignored. -/
def endPanel (l : LaneId) (s : State) : State :=
  let s1 := if s.reports.consumption[l] = .due then setConsumption l .none (onLane l Lane.consumed s)
            else onLane l Lane.discard s
  onLane l Lane.enterDone (emptyBuffer l s1)

/-- A panel handed along with a panel end starts at once (R68). -/
def startHanded (l : LaneId) (next : Option LaneJob) (s : State) : State :=
  match next with
  | some j => startPanel l j s
  | none => s

/-- Lane `l` takes the phase notice in flight to it; in IDLE and DONE it is ignored, but for a panel handed with it (R47). -/
def takeNotice (l : LaneId) (s : State) : State :=
  match s.reports.notices[l] with
  | none => s
  | some (.phase p) =>
    if s.lanes[l].working then takePhase l p (setNotice l none s) else setNotice l none s
  | some (.panelEnd next) =>
    startHanded l next (if s.lanes[l].working then endPanel l (setNotice l none s) else setNotice l none s)

/-- A lane returns to IDLE at a reset: its fetch is cancelled and the reports in flight to it will be ignored (R74, log 19). -/
def resetLane (l : LaneId) (s : State) : State :=
  setNotice l none (setConsumption l .none (setLane l Lane.reset (emptyBuffer l s)))

/-- Every lane returns to IDLE (R74). -/
def resetLanes (s : State) : State := allLanes.foldl (fun s l => resetLane l s) s

/-- The record a fetch of lane `l` has read is handed to the lane (R51): it fills the outstanding entry, the following segment is
requested, and a build that waited for the current segment finishes. -/
def deliverTo (l : LaneId) (g : Segment) (s : State) : State :=
  let s1 := requestFollowing l (onLane l (Lane.deliver g) s)
  if s1.lanes[l].buildWaiting && s1.lanes[l].hasSegment then buildLane l s1 else s1

/-- The access in flight completes (R7, R9, R51): the port grants the next request; the record of lane `l`'s fetch goes to the lane
unless the request was cancelled. Nothing happens when no fetch of lane `l` is in flight (log 6). -/
def completeFetch (l : LaneId) (s : State) : State :=
  match s.store.inFlight with
  | none => s
  | some a =>
    if a.who = laneRequester l then
      let s1 := { s with store := s.store.complete }
      if a.cancelled then s1 else deliverTo l (memRead s.store.mem a.addr) s1
    else s

end Sys2Proof.Machine
end

