-- ==== Sys2Proof/Machine/Tables.lean ====
section
/-!
DEFINITION. The requests that read and write tables: needle sets, lanes, interlocks, speed bands, the machine description, flags,
the config and compensation tables, and IDENTIFY (Chapters 3, 5, 6 and 9).
-/

namespace Sys2Proof.Machine

/-! ### Needle sets and lanes (R71 to R73) -/

/-- SET_NEEDLE_SET (R71). -/
def doSetNeedleSet (k : Byte) (needles : NeedleSet) (s : State) : State × Answer :=
  match indexOf 32 k with
  | none => (s, ⟨.range, []⟩)
  | some i => ({ s with needleSets := s.needleSets.set i needles }, ⟨.done, k :: setBytes needles⟩)

/-- GET_NEEDLE_SET (R72). -/
def doGetNeedleSet (k : Byte) (s : State) : State × Answer :=
  match indexOf 32 k with
  | none => (s, ⟨.range, []⟩)
  | some i => (s, ⟨.done, k :: setBytes s.needleSets[i]⟩)

/-- A segment buffer entry in GET_LANE data: kind code, index, cycles done, with absent parts 0 (R179). -/
def entryBytes : BufEntry → List Byte
  | .absent => [0, 0, 0, 0, 0]
  | .fetch i => 1 :: be2 i ++ [0, 0]
  | .record i c _ => 2 :: be2 i ++ be2 c

/-- The next entry in GET_LANE data: a record carries its index alone (Table 3-6). -/
def nextEntryBytes : BufEntry → List Byte
  | .record i _ _ => 2 :: be2 i ++ [0, 0]
  | e => entryBytes e

/-- The ready record in GET_LANE data: a presence byte, then its fields, 0 when it is absent (R179). -/
def readyBytes : Option Ready → List Byte
  | none => List.replicate 14 0
  | some r => 1 :: r.cls.code :: opt2 r.target ++ setBytes r.mask ++ be1 r.rests ++ opt2 r.feed ++ boolBytes r.repeatEnd

/-- The repeat and stitch index of a lane, 0 in a lane that is not the feed lane (Table 3-6). -/
def Lane.feedIndices (ln : Lane) : List Byte :=
  if ln.role = .feed then be2 ln.repeatIdx ++ be3 ln.stitchIdx else be2 0 ++ be3 0

/-- The phase a lane reports: IDLE for a lane that is not fitted (R73). -/
def State.reportedPhase (s : State) (l : LaneId) : LanePhase := if s.fitted l then s.lanes[l].phase else .idle

/-- GET_LANE (R73): Table 3-6. A lane that is not fitted reports the phase IDLE and its other items as they stand (log 38). -/
def doGetLane (lane : Byte) (s : State) : State × Answer :=
  match laneOf lane with
  | none => (s, ⟨.range, []⟩)
  | some l =>
    let ln := s.lanes[l]
    (s, ⟨.done, [(s.reportedPhase l).code, ln.role.code] ++ opt1 (ln.pattern.map Fin.val) ++ entryBytes ln.cur ++ nextEntryBytes ln.nxt
      ++ signed3 ln.x ++ be3 ln.y ++ ln.feedIndices ++ [ln.lastClass.code] ++ opt2 ln.target ++ optSet ln.lastMask
      ++ readyBytes ln.ready ++ boolBytes ln.buildWaiting ++ boolBytes ln.noticeDue⟩)

/-! ### Interlocks and bands (R91, R92, R97, R98) -/

/-- SET_INTERLOCK (R91): a value above 7 is stored as 7. -/
def doSetInterlock (before built rests : Byte) (s : State) : State × Answer :=
  match indexOf 4 before, indexOf 4 built with
  | some b, some c =>
    let v := min rests.toNat 7
    ({ s with interlock := s.interlock.set (interlockIndex b c) v },
      ⟨if rests.toNat ≤ 7 then .done else .clamped, [before, built] ++ be1 v⟩)
  | _, _ => (s, ⟨.range, []⟩)

/-- GET_INTERLOCK (R92). -/
def doGetInterlock (s : State) : State × Answer := (s, ⟨.done, s.interlock.toList.flatMap be1⟩)

/-- A Dmax as stored (R97). -/
def dmaxOf (h : Half) : Nat := clampNat 1 255 h.toNat

/-- A speed band row in a reply: ceiling and the Dmax of lanes 0 to 3 (R97, R98). -/
def Band.bytes (b : Band) : List Byte := be2 b.ceiling ++ b.dmax.toList.flatMap be2

/-- SET_BAND (R97). -/
def doSetBand (row : Byte) (ceiling : Half) (dmax : Vector Half 4) (s : State) : State × Answer :=
  match indexOf 8 row with
  | none => (s, ⟨.range, []⟩)
  | some k =>
    let b : Band := ⟨min ceiling.toNat 4000, dmax.map dmaxOf⟩
    let clamped := decide (4000 < ceiling.toNat) || dmax.any (fun d => dmaxOf d != d.toNat)
    ({ s with asm := { s.asm with bands := s.asm.bands.set k b } },
      ⟨if clamped then .clamped else .done, row :: b.bytes⟩)

/-- The band selection in a reply: speed and row, or all ones when absent (R98, R179). -/
def selectionBytes : Option BandSelection → List Byte
  | none => [255, 255, 255]
  | some b => be2 b.speed ++ be1 b.row.val

/-- GET_BAND (R98). -/
def doGetBand (s : State) : State × Answer :=
  (s, ⟨.done, s.asm.bands.toList.flatMap Band.bytes ++ selectionBytes s.asm.selection⟩)

/-! ### The machine description (R115 to R117) -/

/-- Two assignments of the map name the same slot (R115). -/
def slotConflict : List (Option SlotId) → Bool
  | [] => false
  | a :: rest => (a.isSome && rest.contains a) || slotConflict rest

/-- The slot map in a reply, 255 for NONE (R180). -/
def mapBytes (h : HeadLink) : List Byte := h.slotLane.toList.flatMap slotBytes ++ slotBytes h.slotFeed

/-- SET_SLOT_MAP (R115). -/
def doSetSlotMap (slots : Vector Byte 4) (feed : Byte) (s : State) : State × Answer :=
  if s.seq.state ≠ .stopped ∨ ¬ (s.link.state = .off ∨ s.link.state = .failed) then (s, ⟨.state, []⟩)
  else
    match slotAssignment slots[0], slotAssignment slots[1], slotAssignment slots[2], slotAssignment slots[3],
      slotAssignment feed with
    | some a, some b, some c, some d, some f =>
      if slotConflict [a, b, c, d, f] then (s, ⟨.conflict, []⟩)
      else
        let h := { s.link with slotLane := #v[a, b, c, d], slotFeed := f, miss := Vector.replicate 6 0, awake := 0,
                               lastState := Vector.replicate 6 none }
        ({ s with link := h }, ⟨.done, mapBytes h⟩)
    | _, _, _, _, _ => (s, ⟨.range, []⟩)

/-- SET_PRESENCE (R116): the Needle Table follows (R131). -/
def doSetPresence (lane : Byte) (needles : NeedleSet) (s : State) : State × Answer :=
  match laneOf lane with
  | none => (s, ⟨.range, []⟩)
  | some l =>
    if s.seq.state ≠ .stopped then (s, ⟨.state, []⟩)
    else
      ({ s with link := { s.link with presence := s.link.presence.set l needles }
                needles := s.needles.followPresence l s.link.presence[l] needles },
        ⟨.done, lane :: setBytes needles⟩)

/-- SET_LIMITS (R117): the recorded position is clamped, and position carry pending is set if it moved (R105). -/
def doSetLimits (lane : Byte) (xmin xmax : Half) (s : State) : State × Answer :=
  match laneOf lane with
  | none => (s, ⟨.range, []⟩)
  | some l =>
    if s.seq.state ≠ .stopped then (s, ⟨.state, []⟩)
    else
      let lim : Limits := ⟨min xmin.toNat 8191, min xmax.toNat 8191⟩
      if lim.xmax < lim.xmin then (s, ⟨.range, []⟩)
      else
        let p := clampPos lim s.asm.pos[l]
        ({ s with link := { s.link with limits := s.link.limits.set l lim }
                  asm := { s.asm with pos := s.asm.pos.set l p
                                      carryPending := s.asm.carryPending || p != s.asm.pos[l] } },
          ⟨if 8191 < xmin.toNat ∨ 8191 < xmax.toNat then .clamped else .done, lane :: be2 lim.xmin ++ be2 lim.xmax ++ be2 p⟩)

/-! ### Flags and the notice mask (R169, R170) -/

/-- READ_FLAGS (R170). -/
def doReadFlags (s : State) : State × Answer :=
  (s, ⟨.done, flagBytes s.flags ++ flagBytes s.notice ++ boolBytes (attention s.flags s.notice)⟩)

/-- CLEAR_FLAGS (R170). -/
def doClearFlags (h : Half) (s : State) : State × Answer :=
  let f := s.flags &&& ~~~(flagSetOf h)
  ({ s with flags := f }, ⟨.done, flagBytes f ++ boolBytes (attention f s.notice)⟩)

/-- SET_NOTICE (R169). -/
def doSetNotice (h : Half) (s : State) : State × Answer :=
  let m := flagSetOf h
  ({ s with notice := m }, ⟨.done, flagBytes m ++ boolBytes (attention s.flags m)⟩)

/-! ### The config table (R171, R172) -/

/-- The config table in a reply (R171, R172). -/
def ConfigTable.bytes (c : ConfigTable) : List Byte :=
  be2 c.fmax ++ be2 c.fgap ++ be1 c.tIn ++ be1 c.tOut ++ be1 c.dwellLimit ++ c.breakAction.toList.map BreakAction.code

/-- A config table is stored and the reply carries it (R171). -/
def storeConfig (c : ConfigTable) (clamped : Bool) (s : State) : State × Answer :=
  ({ s with config := c }, ⟨if clamped then .clamped else .done, c.bytes⟩)

/-- A write of FMAX (R171): only while STOPPED; Fgap is lowered to the new Fmax if it is above it. -/
def setFmax (value : Half) (s : State) : State × Answer :=
  if s.seq.state ≠ .stopped then (s, ⟨.state, []⟩)
  else
    let v := clampNat 1 400 value.toNat
    storeConfig { s.config with fmax := v, fgap := min s.config.fgap v } (v != value.toNat || decide (v < s.config.fgap)) s

/-- A write of FGAP (R171), clamped into 1 to Fmax. -/
def setFgap (value : Half) (s : State) : State × Answer :=
  let v := clampNat 1 s.config.fmax value.toNat
  storeConfig { s.config with fgap := v } (v != value.toNat) s

/-- A write of T_IN (R171), clamped to 7. -/
def setTIn (value : Half) (s : State) : State × Answer :=
  storeConfig { s.config with tIn := min value.toNat 7 } (decide (7 < value.toNat)) s

/-- A write of T_OUT (R171), clamped to 7. -/
def setTOut (value : Half) (s : State) : State × Answer :=
  storeConfig { s.config with tOut := min value.toNat 7 } (decide (7 < value.toNat)) s

/-- A write of DWELL_LIMIT (R171), clamped to 255. -/
def setDwellLimit (value : Half) (s : State) : State × Answer :=
  storeConfig { s.config with dwellLimit := min value.toNat 255 } (decide (255 < value.toNat)) s

/-- A write of BREAK_ACTION of one lane (R147, R171). -/
def setBreakAction (lane : Byte) (value : Half) (s : State) : State × Answer :=
  match laneOf lane, breakActionOf value with
  | some l, some a => storeConfig { s.config with breakAction := s.config.breakAction.set l a } false s
  | _, _ => (s, ⟨.range, []⟩)

/-- SET_CONFIG (R171): the item byte names the item (Table 10-5); another value gives RANGE. -/
def doSetConfig (item lane : Byte) (value : Half) (s : State) : State × Answer :=
  match item.toNat with
  | 0 => setFmax value s
  | 1 => setFgap value s
  | 2 => setTIn value s
  | 3 => setTOut value s
  | 4 => setDwellLimit value s
  | 5 => setBreakAction lane value s
  | _ => (s, ⟨.range, []⟩)

/-- GET_CONFIG (R172). -/
def doGetConfig (s : State) : State × Answer := (s, ⟨.done, s.config.bytes⟩)

/-! ### The compensation table (R173) -/

/-- A scale factor as stored (R173). -/
def factorOf (h : Half) : Nat := clampNat 3686 4915 h.toNat

/-- A compensation row in a reply (R173). -/
def CompRow.bytes (r : CompRow) : List Byte := r.sx.toList.flatMap be2 ++ be2 r.sy

/-- SET_COMPENSATION (R173). -/
def doSetCompensation (material : Byte) (sx : Vector Half 4) (sy : Half) (s : State) : State × Answer :=
  match indexOf 16 material with
  | none => (s, ⟨.range, []⟩)
  | some m =>
    let r : CompRow := ⟨sx.map factorOf, factorOf sy⟩
    let clamped := sx.any (fun h => factorOf h != h.toNat) || factorOf sy != sy.toNat
    ({ s with comp := s.comp.set m r }, ⟨if clamped then .clamped else .done, r.bytes⟩)

/-- GET_COMPENSATION (R173). -/
def doGetCompensation (material : Byte) (s : State) : State × Answer :=
  match indexOf 16 material with
  | none => (s, ⟨.range, []⟩)
  | some m => (s, ⟨.done, s.comp[m].bytes⟩)

/-! ### IDENTIFY (R177) -/

/-- IDENTIFY (Table 9-6); the widths of the figures are the model's (log 14). -/
def doIdentify (s : State) : State × Answer :=
  (s, ⟨.done, be2 Config.partCode ++ be1 Config.revision ++ be1 Config.lanes ++ be1 Config.needlesPerLane ++ be2 Config.pages
    ++ be1 Config.patterns ++ be1 Config.ringSlots ++ be1 Config.headSlots ++ be1 Config.queueDepth ++ be1 Config.historyDepth
    ++ be1 Config.repairDepth⟩)

end Sys2Proof.Machine
end

