-- ==== Sys2Proof/Machine/Head.lean ====
section
/-!
DEFINITION. The Head Link Controller (sections 6.6 to 6.10): the wake, module returns and module loss, head queries, and the requests
that start, stop, query and report the link.
-/

namespace Sys2Proof.Machine

/-! ### Head queries (R124, R125) -/

/-- The outstanding query ends: it is no longer outstanding and its request is answered (R125). -/
def endQuery (a : Answer) (s : State) : State := finishHead a { s with link := { s.link with query := none } }

/-- The query markers run from 1 to 15 and wrap (R124). -/
def nextMarker (m : Nat) : Nat := if 15 ≤ m then 1 else m + 1

/-- A return answers the outstanding query: it comes from the query's slot after F0 with the query's marker (R125). -/
def answers (q : Query) (r : ModuleReturn) : Option Half :=
  match r.answer with
  | some (m, d) => if q.sent.isSome ∧ r.slot = q.slot ∧ m = q.marker then some d else none
  | none => none

/-- A query answer is offered to the outstanding query (R122, R125). -/
def offerAnswer (r : ModuleReturn) (s : State) : State :=
  match s.link.query with
  | none => s
  | some q =>
    match answers q r with
    | some d => endQuery ⟨.done, halfBytes d⟩ s
    | none => s

/-! ### Module returns (R120, R122) -/

/-- The slot's miss count becomes 0, its module state is recorded, and READY sets its READY-seen mark (R122). -/
def HeadLink.noteReturn (r : ModuleReturn) (h : HeadLink) : HeadLink :=
  { h with miss := h.miss.set r.slot 0
           lastState := h.lastState.set r.slot (some r.state)
           seen := if r.state = .ready then h.seen ||| slotBit r.slot else h.seen }

/-- A READY return while WAKING adds its slot to the awake mask, and the last mapped slot makes the link ACTIVE (R120). -/
def HeadLink.wakeReturn (r : ModuleReturn) (h : HeadLink) : HeadLink :=
  if r.state = .ready ∧ h.state = .waking ∧ 1 ≤ h.wakeCount then
    let awake := h.awake ||| slotBit r.slot
    if h.mapped &&& ~~~awake = 0 then
      { h with awake := awake, state := .active, miss := Vector.replicate 6 0, seen := BitVec.allOnes 6 }
    else { h with awake := awake }
  else h

/-- The thread-absent set of a return from a lane's slot goes to the Needle Table (R122, R132). -/
def handThreads (r : ModuleReturn) (s : State) : State :=
  match s.link.laneOfSlot r.slot with
  | some l => if r.missing = 0 then s else takeThreadReport l r.missing r.seq s
  | none => s

/-- A module return is taken; one from a slot that is not mapped is ignored whole (R122). -/
def takeReturn (r : ModuleReturn) (s : State) : State :=
  if inSlots s.link.mapped r.slot then
    offerAnswer r (handThreads r { s with link := (s.link.noteReturn r).wakeReturn r })
  else s

/-! ### Stage 2 of a send point (R103, R120, R123) -/

/-- The miss count of a slot after stage 2: raised by one when the slot is mapped and has no READY-seen mark; at most 3 (R123). -/
def HeadLink.missAfter (h : HeadLink) (k : SlotId) : Nat :=
  if inSlots h.mapped k && !inSlots h.seen k then min (h.miss[k] + 1) Config.missLimit else h.miss[k]

/-- The slots whose miss count has reached 3 (R123). -/
def lostSlots (miss : Vector Nat 6) : SlotSet :=
  allSlots.foldl (fun m k => if Config.missLimit ≤ miss[k] then m ||| slotBit k else m) 0

/-- Miss counting in ACTIVE: counts raised, marks cleared (R123). -/
def HeadLink.countMisses (h : HeadLink) : HeadLink := { h with miss := Vector.ofFn h.missAfter, seen := 0 }

/-- A module is lost: the link is FAILED with the missing mask, LINK_FAULT is set, the Sequencer is asked to pause, and an
outstanding query ends with LINK_DOWN (R123, R125). -/
def loseModule (s : State) : State :=
  let s1 := { s with link := { s.link with state := .failed, missing := lostSlots s.link.miss } }
  let s2 := pauseRequest .link (setFlag .linkFault s1)
  match s.link.query with
  | some _ => endQuery ⟨.linkDown, []⟩ s2
  | none => s2

/-- The wake has run out: the link is FAILED, the missing mask names the mapped slots not awake, and LINK_FAULT is set (R120). -/
def failWake (s : State) : State :=
  setFlag .linkFault { s with link := { s.link with state := .failed, missing := s.link.mapped &&& ~~~s.link.awake } }

/-- The Head Link Controller evaluates the link at a send point (R103 stage 2). -/
def evalLink (s : State) : State :=
  match s.link.state with
  | .active =>
    let s1 := { s with link := s.link.countMisses }
    if lostSlots s1.link.miss = 0 then s1 else loseModule s1
  | .waking => if Config.wakeLimit ≤ s.link.wakeCount then failWake s else s
  | _ => s

/-! ### Requests (R114, R119, R121, R124, R128) -/

/-- LINK_START (R119). -/
def doLinkStart (s : State) : State × Answer :=
  match s.link.state with
  | .off | .failed =>
    if s.link.mapped = 0 then (s, ⟨.empty, []⟩)
    else
      ({ s with link := { s.link with state := .waking, awake := 0, missing := 0, wakeCount := 0,
                                      miss := Vector.replicate 6 0 } }, ⟨.done, []⟩)
  | _ => (s, ⟨.done, []⟩)

/-- The link enters OFF and the awake mask is cleared (R121). -/
def HeadLink.stop (h : HeadLink) : HeadLink := { h with state := .off, awake := 0 }

/-- LINK_STOP (R121); in OFF it changes nothing. -/
def doLinkStop (s : State) : State × Answer :=
  if s.seq.state = .running then (s, ⟨.state, []⟩)
  else if s.link.state = .off then (s, ⟨.done, []⟩)
  else ({ s with link := s.link.stop }, ⟨.done, []⟩)

/-- HEAD_QUERY when it is taken (R124): refused at once, or outstanding until R125 ends it. -/
def doHeadQuery (slot item : Byte) (s : State) : State × Option Answer :=
  match slotOf slot with
  | none => (s, some ⟨.range, []⟩)
  | some k =>
    if !inSlots s.link.mapped k || decide (15 < item.toNat) then (s, some ⟨.range, []⟩)
    else if s.link.state ≠ .active then (s, some ⟨.linkDown, []⟩)
    else
      let m := nextMarker s.link.marker
      ({ s with link := { s.link with marker := m, query := some ⟨k, item.toNat, m, none⟩ }
                mgmt := { s.mgmt with active := some .query } }, none)

/-- The outstanding query in GET_LINK data: slot, item and marker, all 255 when absent (R128, R179, log 13). -/
def outstandingBytes : Option Query → List Byte
  | none => [255, 255, 255]
  | some q => queryBytes (some ⟨q.slot, q.item, q.marker⟩)

/-- GET_LINK (R128): Table 6-9. -/
def doGetLink (s : State) : State × Answer :=
  let h := s.link
  (s, ⟨.done, [h.state.code, s.line.mode.code] ++ mapBytes h ++ slotSetBytes h.awake ++ slotSetBytes h.missing ++ be1 h.wakeCount
    ++ h.miss.toList.flatMap be1 ++ h.lastState.toList.map moduleStateCode ++ h.presence.toList.flatMap setBytes
    ++ h.limits.toList.flatMap (fun l => be2 l.xmin ++ be2 l.xmax) ++ s.asm.pos.toList.flatMap be2
    ++ boolBytes s.asm.carryPending ++ outstandingBytes h.query⟩)

/-- A history entry in a reply, in the order of Table 6-4 (R114). -/
def HistoryEntry.bytes (e : HistoryEntry) : List Byte :=
  halfBytes e.seq ++ [e.kind.code] ++ halfBytes e.serial ++ [e.phase.code] ++ be2 e.repeatIdx ++ be3 e.stitchIdx ++ be4 e.yFed
    ++ e.pos.toList.flatMap be2

/-- READ_HISTORY (R114). -/
def doReadHistory (s : State) : State × Answer :=
  (s, ⟨.done, be1 s.asm.history.length ++ s.asm.history.flatMap HistoryEntry.bytes⟩)

end Sys2Proof.Machine
end

