-- ==== Sys2Proof/Machine/Tallies.lean ====
section
/-!
DEFINITION. The Tally Unit (Chapter 8): the fed-length cascade, the panel tally and the mark comparator.
-/

namespace Sys2Proof.Machine

/-- An update that changed the metre count or the panel tally is judged under the selection (R156). -/
def MarkSelection.judges (m : MarkSelection) (metresChanged panelsChanged : Bool) : Bool :=
  match m with
  | .none => false
  | .metres => metresChanged
  | .panels => panelsChanged
  | .both => metresChanged || panelsChanged

/-- Every selected count equals its value (R156). -/
def Tally.atMark (t : Tally) : Bool :=
  match t.selection with
  | .none => false
  | .metres => t.metres == t.metreValue
  | .panels => t.panels == t.panelValue
  | .both => t.metres == t.metreValue && t.panels == t.panelValue

/-- A mark is reached: MARK is set, and with action PAUSE pause-pending is set (R157). -/
def markReached (s : State) : State :=
  let s1 := setFlag .mark s
  match s.tally.action with
  | .notice => s1
  | .pause => { s1 with seq := { s1.seq with pausePending := true } }

/-- The comparator judges an update of the counts (R156). -/
def judgeMark (metresChanged panelsChanged : Bool) (s : State) : State :=
  if s.tally.selection.judges metresChanged panelsChanged && s.tally.atMark then markReached s else s

/-- Whole millimetres a feed carries past the step count (R150). -/
def Tally.mmCarry (t : Tally) (f : Nat) : Nat := (t.steps + f) / 20

/-- Whole metres a feed carries past the millimetre count (R150). -/
def Tally.metreCarry (t : Tally) (f : Nat) : Nat := (t.mm + t.mmCarry f) / 1000

/-- The fed-length cascade with a feed added, in one update (R150). -/
def Tally.addFeed (t : Tally) (f : Nat) : Tally :=
  { t with steps := (t.steps + f) % 20, mm := (t.mm + t.mmCarry f) % 1000,
           metres := t.metres + BitVec.ofNat 16 (t.metreCarry f) }

/-- The Tally Unit takes a feed report: while RUNNING it adds the feed and the comparator judges the update; while STOPPED nothing
changes (R150, R153, R156). -/
def tallyFeed (f : Nat) (s : State) : State :=
  if s.tally.run then
    judgeMark ((s.tally.addFeed f).metres != s.tally.metres) false { s with tally := s.tally.addFeed f }
  else s

/-- The Tally Unit is told of a panel completion: while RUNNING it counts the panel and the comparator judges the update
(R152, R153, R156). -/
def tallyPanel (s : State) : State :=
  if s.tally.run then judgeMark false true { s with tally := { s.tally with panels := s.tally.panels + 1 } } else s

/-- The Tally Unit takes its oldest feed report in flight, if there is one (R151). -/
def takeFeedReport (s : State) : State :=
  match s.reports.feeds with
  | [] => s
  | f :: rest => tallyFeed f { s with reports := { s.reports with feeds := rest } }

/-- Every feed report in flight is taken, oldest first. A request for which a feed commanded at an earlier send point is already counted
executes on this (R151, R154, R155, R160); that it never comes before such a feed is the model's choice (log 3). -/
def takeFeeds (s : State) : State :=
  s.reports.feeds.foldl (fun s f => tallyFeed f s) { s with reports := { s.reports with feeds := [] } }

/-- The counts of the tally zeroed together (R154). -/
def Tally.zero (t : Tally) : Tally := { t with steps := 0, mm := 0, metres := 0, panels := 0 }

/-- The first seven bytes of a tally snapshot: the four counts (Table 10-10). -/
def Tally.countBytes (t : Tally) : List Byte := be1 t.steps ++ be2 t.mm ++ halfBytes t.metres ++ halfBytes t.panels

/-- The reset outcome byte of TALLY_CONTROL: 0 NOT_ASKED, 1 MADE, 2 IGNORED (Table 8-3, section 10.3). -/
def resetOutcome (wasRunning run reset : Bool) : Byte :=
  if reset then (if wasRunning || run then 2 else 1) else 0

/-- TALLY_CONTROL (R154): bit 0 run, bit 1 reset (R181). Zeroing is made only on a tally that was STOPPED and stays STOPPED. The run
state before it judges the feed of every earlier send point (R151, log 3). -/
def doTallyControl (bits : Byte) (s : State) : State × Answer :=
  let s1 := takeFeeds s
  let run := bits.getLsbD 0
  let outcome := resetOutcome s1.tally.run run (bits.getLsbD 1)
  let t := { (if outcome = 1 then s1.tally.zero else s1.tally) with run := run }
  ({ s1 with tally := t }, ⟨.done, boolBytes run ++ [outcome] ++ t.countBytes⟩)

/-- READ_TALLY (R155): Table 10-10, with the feed of every earlier send point (log 3). -/
def doReadTally (s : State) : State × Answer :=
  let s1 := takeFeeds s
  let t := s1.tally
  (s1, ⟨.done, t.countBytes ++ boolBytes t.run ++ [t.selection.code] ++ halfBytes t.metreValue ++ halfBytes t.panelValue
    ++ [t.action.code]⟩)

/-- SET_MARK (R159). -/
def doSetMark (selection : Byte) (metreValue panelValue : Half) (action : Byte) (s : State) : State × Answer :=
  match selectionOf selection, markActionOf action with
  | some m, some a =>
    ({ s with tally := { s.tally with selection := m, metreValue := metreValue, panelValue := panelValue, action := a } },
      ⟨.done, [m.code] ++ halfBytes metreValue ++ halfBytes panelValue ++ [a.code]⟩)
  | _, _ => (s, ⟨.range, []⟩)

end Sys2Proof.Machine
end

