-- ==== Sys2Proof/Machine/Panels.lean ====
section
/-!
DEFINITION. The Panel Sequencer (Chapter 2): prefetch and validation, making a panel current, phases, completion, WAIT and
DRAINED, the dwell run, and the requests of the panel queue.
-/

namespace Sys2Proof.Machine

/-! ### Prefetch (R29 to R32, R85) -/

/-- The target slot of a prefetch condition (R22). -/
def Prefetch.target : Prefetch → Option RingIndex
  | .none => Option.none
  | .held t _ | .blocked t | .faulted t => some t

/-- The prefetched index: present exactly while the condition is HELD (R22). -/
def Prefetch.pi : Prefetch → Option RingIndex
  | .held t _ => some t
  | _ => Option.none

/-- The slot belongs to the valid run (R22). -/
def Sequencer.inRun (q : Sequencer) (i : RingIndex) : Bool := decide ((i - q.ci).val ≤ (q.lvi - q.ci).val)

/-- Outcome of a prefetch attempt (R29). -/
inductive Attempt where
  | pass (ctx : Context) (clamped : Bool)
  | block
  | fault
  deriving DecidableEq, Repr

/-- Check 3 of R30: every lane with a pattern is fitted. -/
def lanesFitted (s : State) (d : Descriptor) : Bool := allLanes.all (fun l => d.patterns[l].isNone || s.fitted l)

/-- Check 4 of R30: every pattern named is READY. -/
def patternsReady (s : State) (d : Descriptor) : Bool :=
  allLanes.all (fun l => match d.patterns[l] with
    | some n => s.store.dir[n].state == .ready
    | none => true)

/-- The origin of a lane in the context: clamped into the travel limits when the lane has a pattern (R31). -/
def contextOrigin (s : State) (d : Descriptor) (l : LaneId) : Nat :=
  if d.patterns[l].isSome then clampPos s.link.limits[l] d.origins[l] else d.origins[l]

/-- The panel context a passing prefetch builds (R31). -/
def contextOf (s : State) (d : Descriptor) : Context :=
  { desc := { d with origins := #v[contextOrigin s d 0, contextOrigin s d 1, contextOrigin s d 2, contextOrigin s d 3] }
    sx := s.comp[d.material].sx
    sy := s.comp[d.material].sy }

/-- Clamping changed an origin, so CLAMP is set (R31). -/
def originsClamped (s : State) (d : Descriptor) : Bool := allLanes.any (fun l => contextOrigin s d l != d.origins[l])

/-- The checks of R30 on a slot, in their order. -/
def attemptOf (s : State) (target : RingIndex) : Attempt :=
  match s.seq.ring[target] with
  | none => .fault
  | some d =>
    match d.patterns[d.feedLane] with
    | none => .fault
    | some n =>
      if !lanesFitted s d then .fault
      else if !patternsReady s d then .block
      else if feedBoundHolds s.store.dir[n].maxDy s.comp[d.material].sy s.config.fmax then
        .pass (contextOf s d) (originsClamped s d)
      else .fault

/-- A passing prefetch places one pin for each lane reference (R6, R31). -/
def placePins (d : Descriptor) (s : State) : State := { s with store := s.store.changeAllPins (· + 1) d }

/-- The pins of a context are released (R6). -/
def releasePins (d : Descriptor) (s : State) : State := { s with store := s.store.changeAllPins (· - 1) d }

/-- The prefetch condition is dropped: a HELD context releases its pins (R32). -/
def dropPrefetch (s : State) : State :=
  match s.seq.prefetch with
  | .held _ ctx => { releasePins ctx.desc s with seq := { s.seq with prefetch := .none } }
  | _ => { s with seq := { s.seq with prefetch := .none } }

/-- The target of the next attempt: CI while UNSTARTED, else CI + 1 (R22). -/
def Sequencer.prefetchTarget (q : Sequencer) : RingIndex := if q.ciStatus = .unstarted then q.ci else q.ci + 1

/-! ### Phases (R33 to R36) -/

/-- TIE_IN is present: tie_in set and T_in above 0 (Table 2-3). -/
def tieInPresent (s : State) (d : Descriptor) : Bool := d.tieIn && decide (0 < s.config.tIn)

/-- TIE_OUT is present: tie_out set and T_out above 0 (Table 2-3). -/
def tieOutPresent (s : State) (d : Descriptor) : Bool := d.tieOut && decide (0 < s.config.tOut)

/-- The first phase present (R33). -/
def firstPhase (s : State) (d : Descriptor) : PanelPhase :=
  if 0 < d.gap then .gap else if tieInPresent s d then .tieIn else .body

/-- The next phase present after a phase, or none when the panel completes (R34). -/
def phaseAfter (s : State) (d : Descriptor) : PanelPhase → Option PanelPhase
  | .gap => some (if tieInPresent s d then .tieIn else .body)
  | .tieIn => some .body
  | .body => if tieOutPresent s d then some .tieOut else if d.trimOut then some .trimOut else none
  | .tieOut => if d.trimOut then some .trimOut else none
  | .trimOut => none

/-- What a lane is handed with a panel (R45, R48). -/
def jobFor (ctx : Context) (first : PanelPhase) (l : LaneId) : LaneJob :=
  { role := match ctx.desc.patterns[l] with
      | none => .hold
      | some _ => if l = ctx.desc.feedLane then .feed else .pattern
    pattern := ctx.desc.patterns[l]
    origin := ctx.desc.origins[l]
    sx := ctx.sx[l]
    sy := ctx.sy
    repeats := ctx.desc.repeats
    first := first }

/-- A fitted lane is handed a panel: with the panel end in flight to it, if there is one, else at once (R33, R68). -/
def handLane (ctx : Context) (first : PanelPhase) (l : LaneId) (s : State) : State :=
  if s.fitted l then
    match s.reports.notices[l] with
    | some (.panelEnd _) => setNotice l (some (.panelEnd (some (jobFor ctx first l)))) s
    | _ => startPanel l (jobFor ctx first l) s
  else s

/-- Every fitted lane is handed the panel (R33). The lanes are handed it in ascending order, so the lowest pattern lane's request of
segment 0 finds the port first: DESIGN CHOICE, unsafe (log 34). -/
def handPanel (ctx : Context) (first : PanelPhase) (s : State) : State :=
  allLanes.foldl (fun s l => handLane ctx first l s) s

/-- A phase notice goes to every fitted lane (R59). -/
def notifyLanes (n : Notice) (s : State) : State :=
  allLanes.foldl (fun s l => if s.fitted l then setNotice l (some n) s else s) s

/-- DESCRIPTOR: the Sequencer pauses with phase NONE on a failed prefetch while no panel is current (R24, R26, R30). -/
def pauseDescriptor (s : State) : State :=
  if s.seq.state = .running then { s with seq := { s.seq with state := .paused, cause := .descriptor, phase := .none } } else s

/-- The counters of a phase the Sequencer enters (R35, R36). -/
def enterCounters (p : PanelPhase) (d : Descriptor) (s : State) : State :=
  match p with
  | .gap => { s with seq := { s.seq with phase := .panel .gap, gapRem := d.gap } }
  | .tieIn => { s with seq := { s.seq with phase := .panel .tieIn, tie := s.config.tIn } }
  | .body => { s with seq := { s.seq with phase := .panel .body, repeats := 0 } }
  | .tieOut => { s with seq := { s.seq with phase := .panel .tieOut, tie := s.config.tOut } }
  | .trimOut => { s with seq := { s.seq with phase := .panel .trimOut } }

/-- A failed or blocked attempt is recorded: FAULTED with DESCRIPTOR_FAULT, or BLOCKED (R30). -/
def recordFault (target : RingIndex) (s : State) : State :=
  setFlag .descriptorFault { s with seq := { s.seq with prefetch := .faulted target } }

/-- A next prefetch attempted while a panel is current: HELD, BLOCKED or FAULTED, and the line goes on (R29, R30, R31). -/
def attemptHeld (s : State) : State :=
  let t := s.seq.ci + 1
  match attemptOf s t with
  | .pass ctx c => setFlagIf c .clamp (placePins ctx.desc { s with seq := { s.seq with prefetch := .held t ctx } })
  | .block => { s with seq := { s.seq with prefetch := .blocked t } }
  | .fault => recordFault t s

/-- The Sequencer enters a phase of the current panel; entry to BODY attempts the next prefetch when LVI differs from CI and no
condition stands (R29, R35, R36). -/
def enterPhase (p : PanelPhase) (d : Descriptor) (s : State) : State :=
  let s1 := enterCounters p d s
  if p = .body ∧ s1.seq.lvi ≠ s1.seq.ci ∧ s1.seq.prefetch = .none then attemptHeld s1 else s1

/-- A panel is made current (R33): CI moves to its slot, the serial rises, the first phase present is entered and handed to the
lanes with the context. -/
def makeCurrent (ctx : Context) (slot : RingIndex) (s : State) : State :=
  let first := firstPhase s ctx.desc
  let s1 := { s with seq := { s.seq with ci := slot, ciStatus := .current, prefetch := .none, current := some ctx,
                                         serial := s.seq.serial + 1 } }
  handPanel ctx first (enterPhase first ctx.desc s1)

/-- A prefetch attempted while no panel is current: a pass makes the panel current at once, a block is recorded, a failure sets
DESCRIPTOR_FAULT and pauses (R26, R30, R31, R38). -/
def attemptStart (s : State) : State :=
  let t := s.seq.prefetchTarget
  match attemptOf s t with
  | .pass ctx c => makeCurrent ctx t (setFlagIf c .clamp (placePins ctx.desc s))
  | .block => { s with seq := { s.seq with prefetch := .blocked t } }
  | .fault => pauseDescriptor (recordFault t s)

/-- A prefetch attempt, by the CI status (R29). -/
def attempt (s : State) : State := if s.seq.ciStatus = .current then attemptHeld s else attemptStart s

/-- A BLOCKED prefetch is retried while RUNNING (R29). -/
def retryBlocked (s : State) : State :=
  match s.seq.state, s.seq.prefetch with
  | .running, .blocked _ => attempt s
  | _, _ => s

/-- The Sequencer enters WAIT and sets PANEL_WAIT (R38). -/
def enterWait (s : State) : State := setFlag .panelWait { s with seq := { s.seq with phase := .wait } }

/-- A start or next attempt that finds no panel current: where it neither makes a panel current nor pauses, the Sequencer is in WAIT
(R26, R27, R38). -/
def attemptOrWait (s : State) : State :=
  let s1 := attemptStart s
  match s1.seq.prefetch with
  | .blocked _ => if s1.seq.ciStatus = .current then s1 else enterWait s1
  | _ => s1

/-- The Sequencer enters DRAINED and sets QUEUE_DRAINED (R39). -/
def enterDrained (s : State) : State :=
  setFlag .queueDrained { s with seq := { s.seq with state := .drained, phase := .none, cause := .none } }

/-- The panel at PI is made current with its held context (R33). -/
def takeHeld (s : State) : State :=
  match s.seq.prefetch with
  | .held t ctx => makeCurrent ctx t s
  | _ => s

/-! ### Completion (R37) -/

/-- The Sequencer pauses at a panel completion: phase NONE, pause-pending cleared (R37). -/
def pauseAtCompletion (c : Cause) (s : State) : State :=
  { s with seq := { s.seq with state := .paused, cause := c, phase := .none, pausePending := false } }

/-- Lane `l` is told that its panel has ended (R37): the notice goes out to it, and with the pins gone its fetch outstanding is
cancelled (R15, log 27). -/
def tellPanelEnd (l : LaneId) (s : State) : State :=
  setNotice l (some (.panelEnd none)) { s with store := s.store.cancel (laneRequester l) }

/-- Every fitted lane is told that the panel has ended (R37). -/
def tellPanelEnds (s : State) : State := allLanes.foldl (fun s l => if s.fitted l then tellPanelEnd l s else s) s

/-- The steps of a completion that come before the choice: the Tally Unit is told, PANEL_DONE is set if asked, the pins are released,
the context is discarded and the lanes are told that the panel has ended (R37). -/
def closePanel (ctx : Context) (s : State) : State :=
  let s1 := setFlagIf ctx.desc.notice .panelDone (tallyPanel s)
  let s2 := releasePins ctx.desc s1
  tellPanelEnds { s2 with seq := { s2.seq with current := none, ciStatus := .completed } }

/-- Entry to WAIT at a completion: a next prefetch not yet attempted is attempted (R37, R38). -/
def waitAtCompletion (s : State) : State :=
  let s1 := enterWait s
  if s1.seq.prefetch = .none then attemptStart s1 else s1

/-- The prefetch condition is FAULTED (R37). -/
def Prefetch.isFaulted : Prefetch → Bool
  | .faulted _ => true
  | _ => false

/-- The prefetch condition is HELD (R37). -/
def Prefetch.isHeld : Prefetch → Bool
  | .held _ _ => true
  | _ => false

/-- What follows a completion: the first case of R37 that applies. A Sequencer PAUSED already stands at the panel's end and takes none of
them: it keeps its state and cause, and pause-pending, which acts at the first completion after RUN (R28, R157, log 4). -/
def afterCompletion (d : Descriptor) (s : State) : State :=
  if s.seq.state ≠ .running then { s with seq := { s.seq with phase := .none } }
  else if d.pauseAfter then pauseAtCompletion .panelFlag s
  else if s.seq.pausePending then pauseAtCompletion .mark s
  else if s.seq.prefetch.isFaulted then pauseAtCompletion .descriptor s
  else if s.seq.ci = s.seq.lvi then enterDrained s
  else if s.seq.prefetch.isHeld then takeHeld s
  else waitAtCompletion s

/-- A panel completes (R37). -/
def completePanel (ctx : Context) (s : State) : State := afterCompletion ctx.desc (closePanel ctx s)

/-- A phase ends: the next phase present is entered and named to the lanes, or the panel completes (R34, R59). -/
def endPhase (ctx : Context) (p : PanelPhase) (s : State) : State :=
  match phaseAfter s ctx.desc p with
  | some q => enterPhase q ctx.desc (notifyLanes (.phase q) s)
  | none => completePanel ctx s

/-! ### Consumption (R34, R35, R36) -/

/-- The counter of a phase after a consumption, and whether it ends the phase. -/
def countConsumption (d : Descriptor) (p : PanelPhase) (r : SeqReport) (q : Sequencer) : Sequencer × Bool :=
  match p with
  | .gap => ({ q with gapRem := q.gapRem - r.gapFeed }, decide (q.gapRem - r.gapFeed = 0))
  | .tieIn | .tieOut => ({ q with tie := q.tie - 1 }, decide (q.tie - 1 = 0))
  | .body =>
    if r.repeatEnd then ({ q with repeats := q.repeats + 1 }, decide (q.repeats + 1 = d.repeats)) else (q, false)
  | .trimOut => (q, true)

/-- The Sequencer takes a consumption of the current panel: the counter moves, and the phase ends or the lanes are told that it goes
on (R34, R59). -/
def consumeSequencer (ctx : Context) (p : PanelPhase) (r : SeqReport) (s : State) : State :=
  let c := countConsumption ctx.desc p r s.seq
  let s1 := { s with seq := c.1 }
  if c.2 then endPhase ctx p s1 else notifyLanes (.phase p) s1

/-- The Sequencer takes its consumption report, if one is in flight (R34). -/
def takeSequencerReport (s : State) : State :=
  match s.reports.sequencer with
  | none => s
  | some r =>
    let s1 := { s with reports := { s.reports with sequencer := none } }
    match s.seq.current, s.seq.phase with
    | some ctx, .panel p => consumeSequencer ctx p r s1
    | _, _ => s1

/-- The consumption report in flight to the Sequencer ends the phase it is in (R34). -/
def phaseEnds (s : State) : Bool :=
  match s.reports.sequencer, s.seq.current, s.seq.phase with
  | some r, some ctx, .panel p => (countConsumption ctx.desc p r s.seq).2
  | _, _, _ => false

/-! ### The dwell run (R40, R41) -/

/-- The dwell run after a DWELL frame, saturating at 255 (R40). -/
def raiseDwell (n : Nat) : Nat := if n < 255 then n + 1 else n

/-- A raise to `n` reaches the dwell limit; a limit of 0 is no limit (R41). -/
def dwellReached (limit n : Nat) : Bool := limit != 0 && decide (limit ≤ n)

/-- The Frame Assembler reports the kind of a frame sent: DWELL raises the dwell run and may pause the line as STARVED, every other
kind sets it to 0 (R40, R41). -/
def reportKind (k : FrameKind) (s : State) : State :=
  if k = .dwell then
    let s1 := { s with seq := { s.seq with dwell := raiseDwell s.seq.dwell } }
    if dwellReached s.config.dwellLimit (raiseDwell s.seq.dwell) then pauseRequest .starved (setFlag .starved s1) else s1
  else { s with seq := { s.seq with dwell := 0 } }

/-! ### Requests of the panel queue (R20 to R28, R42, R43) -/

/-- WRITE_PANEL (R20): its checks in order, the write, and the retry of a BLOCKED prefetch while RUNNING. -/
def doWritePanel (slot : Byte) (w : PanelWire) (s : State) : State × Answer :=
  match ringOf slot with
  | none => (s, ⟨.range, []⟩)
  | some i =>
    if (i = s.seq.ci ∧ s.seq.ciStatus = .current) ∨ s.seq.prefetch.pi = some i then (s, ⟨.inUse, []⟩)
    else
      match descriptorOf w with
      | none => (s, ⟨.range, []⟩)
      | some d =>
        (retryBlocked { s with seq := { s.seq with ring := s.seq.ring.set i (some d) } },
          ⟨if originAbove w then .clamped else .done, []⟩)

/-- The nineteen descriptor bytes of a reply (Table 10-7). Section 10.3 says what the reserved bits of a record returned by READ_SEGMENTS are
and not what the reserved bits 5 to 7 of this flag byte are; they are carried as 0: DESIGN CHOICE, unsafe (log 39). -/
def descriptorBytes (d : Descriptor) : List Byte :=
  allLanes.flatMap (fun l => opt1 (d.patterns[l].map Fin.val) ++ be2 d.origins[l]) ++ be1 d.feedLane.val ++ be1 d.material.val
    ++ be2 d.repeats ++ be2 d.gap
    ++ [boolCode d.tieIn ||| boolCode d.tieOut <<< 1 ||| boolCode d.trimOut <<< 2 ||| boolCode d.notice <<< 3
        ||| boolCode d.pauseAfter <<< 4]

/-- READ_PANEL (R21): a condition byte and the descriptor, 0 for an EMPTY slot. -/
def doReadPanel (slot : Byte) (s : State) : State × Answer :=
  match ringOf slot with
  | none => (s, ⟨.range, []⟩)
  | some i =>
    match s.seq.ring[i] with
    | none => (s, ⟨.done, List.replicate 20 0⟩)
    | some d => (s, ⟨.done, 1 :: descriptorBytes d⟩)

/-- CI, PI and LVI, as a reply carries them (R23). -/
def indexBytes (q : Sequencer) : List Byte := be1 q.ci.val ++ opt1 (q.prefetch.pi.map Fin.val) ++ be1 q.lvi.val

/-- State, phase and cause, as a reply carries them (R26, R180). -/
def stateBytes (q : Sequencer) : List Byte := [q.state.code, q.phase.code, q.cause.code]

/-- A prefetch stands with its target outside the valid run (R23). -/
def Sequencer.prefetchExcluded (q : Sequencer) : Bool :=
  match q.prefetch.target with
  | some t => !q.inRun t
  | none => false

/-- SET_LAST has set LVI: a prefetch whose target the run excludes is dropped (R23, R32). -/
def dropExcluded (s : State) : State := if s.seq.prefetchExcluded then dropPrefetch s else s

/-- The phase lets SET_LAST attempt the next prefetch at once (R23). -/
def Phase.pastTieIn : Phase → Bool
  | .panel .body | .panel .tieOut | .panel .trimOut => true
  | _ => false

/-- What SET_LAST does in RUNNING after the drop (R23): DRAINED when a next prefetch was dropped in WAIT, an attempt when the next
slot has come into the run, a retry of a BLOCKED prefetch. -/
def setLastRunning (dropped : Bool) (s : State) : State :=
  if s.seq.phase = .wait ∧ s.seq.ciStatus = .completed ∧ dropped = true then enterDrained s
  else if s.seq.ciStatus = .current ∧ s.seq.phase.pastTieIn = true ∧ s.seq.prefetch = .none
      ∧ s.seq.inRun (s.seq.ci + 1) = true then attemptHeld s
  else retryBlocked s

/-- SET_LAST in DRAINED moves on to the next slot: RUNNING with a start prefetch when the link is ACTIVE, else STOPPED and LINK_DOWN
(R23). -/
def setLastDrained (s : State) : State × Bool :=
  let s1 := { s with seq := { s.seq with ci := s.seq.ci + 1, ciStatus := .unstarted } }
  if s.link.state = .active then (attemptOrWait { s1 with seq := { s1.seq with state := .running } }, true)
  else ({ s1 with seq := { s1.seq with state := .stopped } }, false)

/-- SET_LAST (R23). -/
def doSetLast (slot : Byte) (s : State) : State × Answer :=
  match ringOf slot with
  | none => (s, ⟨.range, []⟩)
  | some i =>
    let s1 := { s with seq := { s.seq with lvi := i } }
    let s2 := dropExcluded s1
    match s2.seq.state with
    | .running =>
      let s3 := setLastRunning s1.seq.prefetchExcluded s2
      (s3, ⟨.done, indexBytes s3.seq⟩)
    | .drained =>
      if i = s2.seq.ci then (s2, ⟨.done, indexBytes s2.seq⟩)
      else
        let r := setLastDrained s2
        (r.1, if r.2 then ⟨.done, indexBytes r.1.seq⟩ else ⟨.linkDown, []⟩)
    | _ => (s2, ⟨.done, indexBytes s2.seq⟩)

/-- RUN in PAUSED with the link ACTIVE, by the CI status (R27). -/
def resume (s : State) : State :=
  let running := { s with seq := { s.seq with state := .running, cause := .none } }
  match s.seq.ciStatus with
  | .current =>
    match s.seq.prefetch with
    | .blocked _ | .faulted _ => attemptHeld running
    | _ => running
  | .unstarted => attemptOrWait running
  | .completed =>
    if s.seq.ci = s.seq.lvi then enterDrained s
    else if s.seq.prefetch.isHeld then takeHeld running
    else attemptOrWait running

/-- RUN (R26, R27). The reply carries state, phase and cause with every result (R180). -/
def doRun (s : State) : State × Answer :=
  match s.seq.state with
  | .stopped =>
    if s.seq.ring[s.seq.ci].isNone then (s, ⟨.empty, stateBytes s.seq⟩)
    else if s.link.state ≠ .active then (s, ⟨.linkDown, stateBytes s.seq⟩)
    else
      let s1 := attemptOrWait { s with seq := { s.seq with state := .running } }
      (s1, ⟨.done, stateBytes s1.seq⟩)
  | .paused =>
    if s.link.state ≠ .active then (s, ⟨.linkDown, stateBytes s.seq⟩)
    else
      let s1 := resume s
      (s1, ⟨.done, stateBytes s1.seq⟩)
  | _ => (s, ⟨.done, stateBytes s.seq⟩)

/-- PAUSE (R28). -/
def doPause (s : State) : State × Answer :=
  match s.seq.state with
  | .running =>
    let q := { s.seq with state := .paused, cause := .request }
    ({ s with seq := q }, ⟨.done, stateBytes q⟩)
  | .drained =>
    let q := { s.seq with state := .paused, cause := .request, phase := .none, ciStatus := .completed }
    ({ s with seq := q }, ⟨.done, stateBytes q⟩)
  | _ => (s, ⟨.done, stateBytes s.seq⟩)

/-- The pins of both contexts are released (R42). -/
def releaseContexts (s : State) : State :=
  let s1 := match s.seq.current with
    | some ctx => releasePins ctx.desc s
    | none => s
  match s.seq.prefetch with
  | .held _ ctx => releasePins ctx.desc s1
  | _ => s1

/-- The Sequencer and the lanes return to their reset state, every pin released (R42, R44); the consumption report in flight to the
Sequencer will be ignored (log 19). Feed commanded before the reset has been counted (R160). -/
def resetQueue (s : State) : State :=
  let s1 := resetLanes (releaseContexts (takeFeeds s))
  { s1 with seq := Sequencer.reset, reports := { s1.reports with sequencer := none } }

/-- RESET_QUEUE (R42). -/
def doResetQueue (s : State) : State × Answer :=
  if s.seq.state = .running then (s, ⟨.state, []⟩) else (resetQueue s, ⟨.done, []⟩)

/-- The feed lane of the current panel, while one is current (R43). While the notice that hands the lane this panel is still in flight
the lane holds the panel before it, and nothing of the current panel has been consumed: the items then read 0. DEDUCED, unsafe (log 35). -/
def State.feedLaneContext (s : State) : Option Lane :=
  match s.seq.ciStatus, s.seq.current with
  | .current, some ctx => if s.panelOver ctx.desc.feedLane then none else some s.lanes[ctx.desc.feedLane]
  | _, _ => none

/-- Repeat index of the current panel, 0 while none is current (R43, R112). -/
def State.repeatIdx (s : State) : Nat := (s.feedLaneContext.map Lane.repeatIdx).getD 0

/-- Stitch index of the current panel, 0 while none is current (R43, R112). -/
def State.stitchIdx (s : State) : Nat := (s.feedLaneContext.map Lane.stitchIdx).getD 0

/-- Y_fed of the current panel, 0 while none is current (R43, R112). -/
def State.yFed (s : State) : Nat := (s.feedLaneContext.map Lane.yFed).getD 0

/-- GET_QUEUE (R43): Table 2-5. -/
def doGetQueue (s : State) : State × Answer :=
  let q := s.seq
  (s, ⟨.done, indexBytes q ++ stateBytes q ++ [q.ciStatus.code, q.prefetch.code] ++ opt1 (q.prefetch.target.map Fin.val)
    ++ boolBytes q.pausePending ++ halfBytes q.serial ++ be2 s.repeatIdx ++ be3 s.stitchIdx ++ be4 s.yFed ++ be2 q.gapRem⟩)

/-- A pattern has become READY: a BLOCKED prefetch is retried while RUNNING (R14, R29). -/
def patternReady (s : State) : State := retryBlocked s

end Sys2Proof.Machine
end

