-- ==== Sys2Proof/Machine/Patterns.lean ====
section
/-!
DEFINITION. The pattern requests of the Pattern Store (section 1.6) and the completion of a management access (R13, R17).
-/

namespace Sys2Proof.Machine

/-- OPEN_PATTERN (R10): the lowest free pages in ascending order (R5). -/
def doOpenPattern (n pages : Byte) (s : State) : State × Answer :=
  match patternOf n with
  | none => (s, ⟨.range, []⟩)
  | some p =>
    if s.store.dir[p].state ≠ .empty then (s, ⟨.state, []⟩)
    else if pages.toNat < 1 ∨ Config.maxPages < pages.toNat then (s, ⟨.range, []⟩)
    else if s.store.free.length < pages.toNat then (s, ⟨.noSpace, []⟩)
    else
      let e : DirEntry := { s.store.dir[p] with state := .loading, pages := s.store.free.take pages.toNat, count := 0, maxDy := 0 }
      ({ s with store := { s.store.setEntry p e with free := s.store.free.drop pages.toNat } }, ⟨.done, [pages]⟩)

/-- The checks of APPEND_SEGMENTS on a directory entry, in their order; none when all pass (R11). -/
def appendFails (e : DirEntry) (first : Nat) (records : List SegmentWire) : Option Result :=
  if e.state ≠ .loading then some .state
  else if first ≠ e.count then some .range
  else if 32 * e.pages.length < first + records.length then some .noSpace
  else if !records.all segmentOk then some .range
  else none

/-- A management access to segment `i` of a pattern is requested (R13, R4). -/
def requestMgmt (p : PatternId) (i : Nat) (s : State) : State :=
  { s with store := s.store.request mgmtRequester (locate s.store.dir[p].pages i) }

/-- APPEND_SEGMENTS when it is taken (R11, R12, R13): refused at once, or in progress with its first access requested. -/
def doAppendSegments (n : Byte) (first : Half) (records : List SegmentWire) (s : State) : State × Option Answer :=
  match patternOf n with
  | none => (s, some ⟨.range, []⟩)
  | some p =>
    match appendFails s.store.dir[p] first.toNat records with
    | some r => (s, some ⟨r, []⟩)
    | none =>
      let stored := records.map normalise
      (requestMgmt p first.toNat
        { s with mgmt := { s.mgmt with active := some (.append p [] (stored.map Prod.fst) (stored.any Prod.snd)) } }, none)

/-- CLOSE_PATTERN (R14): the Sequencer retries a blocked prefetch before the reply. -/
def doClosePattern (n : Byte) (s : State) : State × Answer :=
  match patternOf n with
  | none => (s, ⟨.range, []⟩)
  | some p =>
    let e := s.store.dir[p]
    if e.state ≠ .loading then (s, ⟨.state, []⟩)
    else if e.count = 0 then (s, ⟨.empty, []⟩)
    else (patternReady { s with store := s.store.setEntry p { e with state := .ready } }, ⟨.done, []⟩)

/-- FREE_PATTERN (R15). -/
def doFreePattern (n : Byte) (s : State) : State × Answer :=
  match patternOf n with
  | none => (s, ⟨.range, []⟩)
  | some p =>
    let e := s.store.dir[p]
    if e.state = .empty then (s, ⟨.empty, []⟩)
    else if 0 < e.pins then (s, ⟨.inUse, []⟩)
    else
      ({ s with store := { s.store.setEntry p { e with state := .empty, pages := [], count := 0, maxDy := 0 } with
          free := returnPages e.pages s.store.free } }, ⟨.done, []⟩)

/-- GET_PATTERN (R16): Table 10-8. -/
def doGetPattern (n : Byte) (s : State) : State × Answer :=
  match patternOf n with
  | none => (s, ⟨.range, []⟩)
  | some p =>
    let e := s.store.dir[p]
    (s, ⟨.done, [e.state.code] ++ be2 e.count ++ be1 e.maxDy ++ be1 e.pins ++ be2 s.store.free.length ++ be1 e.pages.length
      ++ e.pages.flatMap be2⟩)

/-- READ_SEGMENTS when it is taken (R17): refused at once, or in progress with its first access requested. -/
def doReadSegments (n : Byte) (first : Half) (number : Byte) (s : State) : State × Option Answer :=
  match patternOf n with
  | none => (s, some ⟨.range, []⟩)
  | some p =>
    let e := s.store.dir[p]
    if e.state = .empty then (s, some ⟨.empty, []⟩)
    else if number.toNat < 1 ∨ 8 < number.toNat then (s, some ⟨.range, []⟩)
    else if e.count ≤ first.toNat then (s, some ⟨.range, []⟩)
    else
      let left := min number.toNat (e.count - first.toNat)
      (requestMgmt p first.toNat
        { s with mgmt := { s.mgmt with active := some (.read p first.toNat left [] (decide (left < number.toNat))) } }, none)

/-- The largest dy of a list of stored records (R13). -/
def largestDy (segs : List Segment) : Nat := segs.foldl (fun m g => max m g.dy) 0

/-- The last write of APPEND_SEGMENTS has completed: count and max_dy rise together and the reply goes out (R13). -/
def finishAppend (p : PatternId) (written : List Segment) (clamped : Bool) (s : State) : State :=
  let e := s.store.dir[p]
  let count := e.count + written.length
  finishHead ⟨if clamped then .clamped else .done, be2 count⟩
    { s with store := s.store.setEntry p { e with count := count, maxDy := max e.maxDy (largestDy written) } }

/-- A write of APPEND_SEGMENTS completes at a location (R13). -/
def stepAppend (p : PatternId) (written : List Segment) (g : Segment) (rest : List Segment) (clamped : Bool) (addr : Nat)
    (s : State) : State :=
  let s1 := { s with store := { s.store with mem := memWrite s.store.mem addr g } }
  let written' := written ++ [g]
  match rest with
  | [] => finishAppend p written' clamped s1
  | _ =>
    requestMgmt p (s1.store.dir[p].count + written'.length)
      { s1 with mgmt := { s1.mgmt with active := some (.append p written' rest clamped) } }

/-- A read of READ_SEGMENTS completes (R17): the reply carries the records as stored and then their number (log 15). -/
def stepRead (p : PatternId) (next left : Nat) (got : List Segment) (short : Bool) (addr : Nat) (s : State) : State :=
  let got' := got ++ [memRead s.store.mem addr]
  if left ≤ 1 then finishHead ⟨if short then .clamped else .done, got'.flatMap storedBytes ++ be1 got'.length⟩ s
  else
    requestMgmt p (next + 1)
      { s with mgmt := { s.mgmt with active := some (.read p (next + 1) (left - 1) got' short) } }

/-- The management access in flight completes (R7, R13, R17). Nothing happens when none is in flight (log 6). -/
def completeMgmt (s : State) : State :=
  match s.store.inFlight with
  | none => s
  | some a =>
    if a.who = mgmtRequester then
      let s1 := { s with store := s.store.complete }
      match s.mgmt.active with
      | some (.append p written (g :: rest) clamped) => stepAppend p written g rest clamped a.addr s1
      | some (.read p next left got short) => stepRead p next left got short a.addr s1
      | _ => s1
    else s

end Sys2Proof.Machine
end

