-- ==== Sys2Proof/Machine/Management.lean ====
section
/-!
DEFINITION. The Management Unit (section 9.3): the request queue, the execution of the request at its head, SET_MODE and LINE_RESET.
-/

namespace Sys2Proof.Machine

/-! ### SET_MODE and LINE_RESET (R174, R176) -/

/-- The mode changes and the link enters OFF with it (R174, R121). Feed commanded before the change has been counted, so the counts stand
still in ECHO (R160, log 3). -/
def changeMode (m : Mode) (s : State) : State :=
  let s1 := takeFeeds s
  { s1 with line := { s1.line with mode := m }, link := s1.link.stop }

/-- What SET_MODE answers, and the mode it changes to, if any (R174). -/
def judgeMode (mode : Byte) (s : State) : Result × Option Mode :=
  match modeOf mode with
  | none => (.range, none)
  | some m =>
    if s.seq.state ≠ .stopped then (.state, none)
    else if m = s.line.mode then (.done, none)
    else (.done, some m)

/-- SET_MODE at the head of the queue (R174). A change into ECHO produces the reply first, then changes the mode and drops every
request still waiting; any other change is made before the reply. -/
def execSetModeHead (mode : Byte) (s : State) : State :=
  match judgeMode mode s with
  | (r, none) => finishHead ⟨r, []⟩ s
  | (r, some m) =>
    if m = .echo then
      let s1 := changeMode .echo (finishHead ⟨r, []⟩ s)
      { s1 with mgmt := ⟨[], none⟩ }
    else finishHead ⟨r, []⟩ (changeMode m s)

/-- LINE_RESET (R176). -/
def doLineReset (s : State) : State × Answer :=
  let s1 := resetQueue s
  ({ s1 with needles := { s1.needles with reservation := none }
             asm := { s1.asm with history := [] }
             link := { s1.link with miss := Vector.replicate 6 0 }
             line := { s1.line with lastSeq := none } }, ⟨.done, []⟩)

/-! ### The queue (R166) -/

/-- A request that finishes when it is taken: its effects, then its reply (R166, R167). -/
def finish (r : State × Answer) : State := finishHead r.2 r.1

/-- A request that may hold the head: it ends at once, or goes on (R166). -/
def finishOrHold (r : State × Option Answer) : State :=
  match r.2 with
  | some a => finishHead a r.1
  | none => r.1

/-- The request at the head of the queue is handed to its owning block (R166). -/
def execHead (r : Request) (s : State) : State :=
  match r with
  | .openPattern n pages => finish (doOpenPattern n pages s)
  | .appendSegments n first records => finishOrHold (doAppendSegments n first records s)
  | .closePattern n => finish (doClosePattern n s)
  | .freePattern n => finish (doFreePattern n s)
  | .getPattern n => finish (doGetPattern n s)
  | .readSegments n first number => finishOrHold (doReadSegments n first number s)
  | .writePanel slot panel => finish (doWritePanel slot panel s)
  | .readPanel slot => finish (doReadPanel slot s)
  | .setLast slot => finish (doSetLast slot s)
  | .run => finish (doRun s)
  | .pause => finish (doPause s)
  | .resetQueue => finish (doResetQueue s)
  | .getQueue => finish (doGetQueue s)
  | .setNeedleSet k needles => finish (doSetNeedleSet k needles s)
  | .getNeedleSet k => finish (doGetNeedleSet k s)
  | .getLane lane => finish (doGetLane lane s)
  | .setInterlock before built rests => finish (doSetInterlock before built rests s)
  | .getInterlock => finish (doGetInterlock s)
  | .setBand row ceiling dmax => finish (doSetBand row ceiling dmax s)
  | .getBand => finish (doGetBand s)
  | .setSlotMap slots feed => finish (doSetSlotMap slots feed s)
  | .setPresence lane needles => finish (doSetPresence lane needles s)
  | .setLimits lane xmin xmax => finish (doSetLimits lane xmin xmax s)
  | .linkStart => finish (doLinkStart s)
  | .linkStop => finish (doLinkStop s)
  | .headQuery slot item => finishOrHold (doHeadQuery slot item s)
  | .getLink => finish (doGetLink s)
  | .readHistory => finish (doReadHistory s)
  | .reserveNeedle lane needle => finish (doReserveNeedle lane needle s)
  | .restoreNeedle lane needle => finish (doRestoreNeedle lane needle s)
  | .lockNeedle lane needle => finish (doLockNeedle lane needle s)
  | .getNeedles lane => finish (doGetNeedles lane s)
  | .readRepairs n => finish (doReadRepairs n s)
  | .retireRepairs k => finish (doRetireRepairs k s)
  | .tallyControl bits => finish (doTallyControl bits s)
  | .readTally => finish (doReadTally s)
  | .setMark selection metreValue panelValue action => finish (doSetMark selection metreValue panelValue action s)
  | .readFlags => finish (doReadFlags s)
  | .clearFlags flags => finish (doClearFlags flags s)
  | .setNotice flags => finish (doSetNotice flags s)
  | .setConfig item lane value => finish (doSetConfig item lane value s)
  | .getConfig => finish (doGetConfig s)
  | .setCompensation material sx sy => finish (doSetCompensation material sx sy s)
  | .getCompensation material => finish (doGetCompensation material s)
  | .setMode mode => execSetModeHead mode s
  | .lineReset => finish (doLineReset s)
  | .identify => finish (doIdentify s)

/-- Up to `n` requests execute one after another, from the head, until one holds the head or the queue is empty (R166). -/
def runQueue : Nat → State → State
  | 0, s => s
  | n + 1, s =>
    match s.mgmt.active, s.mgmt.queue with
    | none, e :: _ => runQueue n (execHead e.req s)
    | _, _ => s

/-- The requests that wait execute while none holds the head; the queue holds at most four (R166). -/
def drainQueue (s : State) : State := runQueue s.mgmt.queue.length s

/-- A request that passed the checks of R165 is placed at the tail of the queue, and executes at once when the queue was empty
(R166). -/
def enqueue (tag : Byte) (r : Request) (s : State) : State :=
  drainQueue { s with mgmt := { s.mgmt with queue := s.mgmt.queue ++ [⟨tag, r⟩] } }

/-- The Management Unit deals with a MGMT frame on arrival (R165). -/
def takeRequest (tag code : Byte) (args : List Byte) (s : State) : State :=
  match parseRequest code args with
  | .unknown => reply tag code ⟨.unknown, []⟩ s
  | .format => reply tag code ⟨.format, []⟩ s
  | .request r => if Config.queueDepth ≤ s.mgmt.queue.length then reply tag code ⟨.busy, []⟩ s else enqueue tag r s

/-- A SET_MODE that arrives in ECHO is executed at once, and its reply is produced after its effects (R174, R175). -/
def setModeInEcho (tag code mode : Byte) (s : State) : State :=
  match judgeMode mode s with
  | (r, none) => reply tag code ⟨r, []⟩ s
  | (r, some m) => reply tag code ⟨r, []⟩ (changeMode m s)

/-- A MGMT frame by the mode: in ECHO only SET_MODE is executed and every other request is dropped (R165, R175). -/
def takeMgmt (tag code : Byte) (args : List Byte) (s : State) : State :=
  if s.line.mode = .echo then
    match parseRequest code args with
    | .request (.setMode m) => setModeInEcho tag code m s
    | _ => s
  else takeRequest tag code args s

end Sys2Proof.Machine
end

