-- ==== Sys2Proof/Machine/SendPoint.lean ====
section
/-!
DEFINITION. The send point (R103): band selection, link evaluation, the choice of the frame kind, the head frame with its bar moves,
lockouts and feed, the history, the reports, the synthetic returns of LOOPBACK and the STATUS frame.
-/

namespace Sys2Proof.Machine

/-! ### Reports in flight -/

/-- A report in flight is taken by the block it goes to (R59, R34, R150). -/
def takeReport (r : Report) (s : State) : State :=
  match r with
  | .lane l => takeLaneReport l s
  | .sequencer => takeSequencerReport s
  | .notice l => takeNotice l s
  | .feed => takeFeedReport s

/-- Reports are taken one after another. -/
def takeReports (order : List Report) (s : State) : State := order.foldl (fun s r => takeReport r s) s

/-- The consumption reports of an earlier ADVANCE frame that were not taken yet are taken now: lanes in ascending order, then the
Sequencer, then the feed reports; phase notices stay in flight (log 3). -/
def settleReports (s : State) : State := takeFeeds (takeReports [.lane 0, .lane 1, .lane 2, .lane 3, .sequencer] s)

/-! ### Stage 1: the band (R94, R96) -/

/-- The rows of the speed band table in ascending order. -/
def bandRows : List (Fin 8) := [0, 1, 2, 3, 4, 5, 6, 7]

/-- The first row whose ceiling reaches the speed, else row 7 (R94). -/
def selectBand (bands : Vector Band 8) (speed : Nat) : Fin 8 :=
  (bandRows.find? (fun k => decide (speed ≤ bands[k].ceiling))).getD 7

/-- The Frame Assembler selects the band and records the selection (R94, R96). -/
def recordBand (speed : Nat) (s : State) : State :=
  { s with asm := { s.asm with selection := some ⟨speed, selectBand s.asm.bands speed⟩ } }

/-- The row selected at the latest send point; row 0 stands in while there has been none. -/
def State.bandRow (s : State) : Fin 8 :=
  match s.asm.selection with
  | some b => b.row
  | none => 0

/-- The Dmax of a lane at this send point (R95). -/
def State.dmax (s : State) (l : LaneId) : Nat := s.asm.bands[s.bandRow].dmax[l]

/-! ### Stage 3: the frame kind (R99, R104) -/

/-- The class waits for its bar: STITCH, TACK and TRIM (R99). -/
def RecClass.waitsForBar : RecClass → Bool
  | .stitch | .tack | .trim => true
  | .jump | .hold => false

/-- The travel of a record from a bar position; 0 for a HOLD record with no target (R99). -/
def Ready.travelFrom (r : Ready) (pos : Nat) : Nat :=
  match r.target with
  | some t => travel pos t
  | none => 0

/-- The record is unsettled at a bar position under a Dmax (R99). -/
def Ready.unsettled (r : Ready) (pos dmax : Nat) : Bool :=
  decide (0 < r.rests) || (r.cls.waitsForBar && decide (dmax < r.travelFrom pos))

/-- Every fitted lane offers a ready record (R57). -/
def State.allOffer (s : State) : Bool := allLanes.all (fun l => !s.fitted l || s.lanes[l].offers)

/-- Lane `l` is fitted and its ready record is unsettled (R99). -/
def State.laneUnsettled (s : State) (l : LaneId) : Bool :=
  s.fitted l && (match s.lanes[l].ready with
    | some r => r.unsettled s.asm.pos[l] (s.dmax l)
    | none => false)

/-- Some fitted lane's ready record is unsettled (R104 row 6). -/
def State.someUnsettled (s : State) : Bool := allLanes.any s.laneUnsettled

/-- The frame kind by the first row of Table 6-1 that holds; none when no frame is sent (R104). -/
def State.decideKind (run : Bool) (s : State) : Option FrameKind :=
  if s.line.mode = .echo then none
  else if s.link.state = .waking then some .wake
  else if (s.link.state = .off ∨ s.link.state = .failed) ∧ s.line.mode = .normal then none
  else if run = false ∨ s.seq.state ≠ .running ∨ s.asm.carryPending = true then some .still
  else if s.seq.phase = .wait ∨ s.allOffer = false then some .dwell
  else if s.someUnsettled then some .step
  else some .advance

/-! ### Stage 4: bars, needles and feed (R106 to R109) -/

/-- The frame kind moves the bars (R106). -/
def FrameKind.moves : FrameKind → Bool
  | .step | .advance => true
  | .still | .wake | .dwell => false

/-- The position of lane `l`'s bar after a STEP or ADVANCE frame (R106). A HOLD target older than the limits in force is followed as it
stands (log 36). -/
def State.movedPos (s : State) (l : LaneId) : Nat :=
  if s.fitted l then
    match s.lanes[l].ready with
    | some r =>
      match r.target with
      | some t => moveToward s.asm.pos[l] t (s.dmax l)
      | none => s.asm.pos[l]
    | none => s.asm.pos[l]
  else s.asm.pos[l]

/-- A lane's ready record with one rest paid, if it owes any (R106). -/
def Lane.payRest (ln : Lane) : Lane := { ln with ready := ln.ready.map (fun r => { r with rests := r.rests - 1 }) }

/-- The bars move in a STEP or ADVANCE frame, and a STEP frame pays one rest of every fitted lane's record (R106). -/
def moveBars (k : FrameKind) (s : State) : State :=
  let pos := if k.moves then Vector.ofFn s.movedPos else s.asm.pos
  let lanes := if k = .step then Vector.ofFn (fun l => if s.fitted l then s.lanes[l].payRest else s.lanes[l]) else s.lanes
  { s with asm := { s.asm with pos := pos }, lanes := lanes }

/-- The needle-down set of lane `l` in an ADVANCE frame: the base mask of a STITCH or TACK record without every needle that is not
ENGAGED now (R107). -/
def State.downSet (s : State) (l : LaneId) : NeedleSet :=
  match s.lanes[l].ready with
  | some r => if r.cls = .stitch ∨ r.cls = .tack then r.mask &&& engagedSet s.needles.entries[l] else 0
  | none => 0

/-- Lane `l` has a trim command in an ADVANCE frame (R108). -/
def State.trims (s : State) (l : LaneId) : Bool :=
  match s.lanes[l].ready with
  | some r => r.cls == .trim
  | none => false

/-- The feed of the feed lane's ready record in the current panel. -/
def State.bodyFeed (s : State) : Nat := ((s.feedLaneContext.bind Lane.ready).bind Ready.feed).getD 0

/-- The repeat-end mark of the feed lane's ready record in the current panel. -/
def State.bodyRepeatEnd (s : State) : Bool := ((s.feedLaneContext.bind Lane.ready).map Ready.repeatEnd).getD false

/-- The gap feed of this send point: the lesser of Fgap and the gap remainder (R35). -/
def State.gapFeed (s : State) : Nat := min s.config.fgap s.seq.gapRem

/-- The feed of an ADVANCE frame, by the phase of the Sequencer (Table 6-2). -/
def State.advanceFeed (s : State) : Nat :=
  match s.seq.phase with
  | .panel .gap => s.gapFeed
  | .panel .body => s.bodyFeed
  | _ => 0

/-- The lane part of lane `l` for a slot; the bars have moved already (R107, R108, R111). -/
def State.lanePart (s : State) (k : FrameKind) (l : LaneId) (slot : SlotId) : LanePart :=
  if k = .advance then ⟨slot, s.asm.pos[l], s.downSet l, s.trims l⟩ else ⟨slot, s.asm.pos[l], 0, false⟩

/-- The query rides in the next head frame sent (R124). -/
def HeadLink.riding (h : HeadLink) : Option QueryPart :=
  match h.query with
  | some q => if q.sent.isNone then some ⟨q.slot, q.item, q.marker⟩ else none
  | none => none

/-- The head frame of a kind, with the bars moved already (R111, Table 6-3). -/
def State.headFrame (seq : Half) (k : FrameKind) (s : State) : HeadFrame :=
  { seq := seq
    kind := k
    parts := allLanes.filterMap (fun l => s.link.slotLane[l].map (s.lanePart k l))
    feedSlot := s.link.slotFeed
    feed := if k = .advance then s.advanceFeed else 0
    query := s.link.riding }

/-- The frame is sent: it is driven on the head link, which puts the head receiver back to hunting (log 20), or counts as sent in
LOOPBACK; position carry pending is cleared, and a WAKE frame raises the wake count (R105, R120, R126). -/
def driveFrame (f : HeadFrame) (s : State) : State :=
  let h := if s.line.mode = .loopback then s.link else { s.link with out := some f, receiver := .hunting }
  { s with asm := { s.asm with carryPending := false }
           link := { h with wakeCount := if f.kind = .wake then h.wakeCount + 1 else h.wakeCount } }

/-- The head frames sent after F0 once one more is sent: the query rides in F0, which counts 0 (R124, R125). -/
def Query.countFrame (q : Query) : Query :=
  { q with sent := some (match q.sent with
      | none => 0
      | some k => k + 1) }

/-- The frame sent is the fourth after the query's F0 (R125). -/
def HeadLink.queryRunsOut (h : HeadLink) : Bool :=
  match h.query with
  | some q => match q.sent with
    | some k => decide (Config.queryFrames ≤ k + 1)
    | none => false
  | none => false

/-- The frame sent counts for the outstanding query, which ends with TIMEOUT and data 65535 at the fourth frame after F0 (R125). -/
def countQueryFrame (s : State) : State :=
  if s.link.queryRunsOut then endQuery ⟨.timeout, [255, 255]⟩ (setFlag .queryTimeout s)
  else { s with link := { s.link with query := s.link.query.map Query.countFrame } }

/-! ### Stages 5 and 6: history and reports (R110, R112, R126) -/

/-- The history entry of a frame (Table 6-4). -/
def State.historyEntry (f : HeadFrame) (s : State) : HistoryEntry :=
  { seq := f.seq, kind := f.kind, serial := s.seq.serial, phase := s.seq.phase, repeatIdx := s.repeatIdx,
    stitchIdx := s.stitchIdx, yFed := s.yFed, pos := s.asm.pos }

/-- The frame is written into the history, which keeps the last eight (R112). -/
def writeHistory (f : HeadFrame) (s : State) : State :=
  { s with asm := { s.asm with history := (s.historyEntry f :: s.asm.history).take Config.historyDepth } }

/-- What an ADVANCE frame reports to the Sequencer (R110). -/
def State.seqReport (s : State) : SeqReport :=
  { gapFeed := if s.seq.phase = .panel .gap then s.gapFeed else 0
    repeatEnd := if s.seq.phase = .panel .body then s.bodyRepeatEnd else false }

/-- An ADVANCE frame puts its consumption reports in flight: to every fitted lane, to the Sequencer and to the Tally Unit
(R110, R151). -/
def putReports (feed : Nat) (s : State) : State :=
  { s with reports := { s.reports with
      consumption := Vector.ofFn (fun l => if s.fitted l then .due else s.reports.consumption[l])
      sequencer := some s.seqReport
      feeds := s.reports.feeds ++ [feed] } }

/-- Stages 4 to 6 of a frame that is sent, up to the reports in flight. -/
def sendFrame (seq : Half) (k : FrameKind) (s : State) : State :=
  let s1 := moveBars k s
  let f := s1.headFrame seq k
  let s2 := reportKind k (writeHistory f (countQueryFrame (driveFrame f s1)))
  if k = .advance then putReports f.feed s2 else s2

/-- The synthetic return of a slot in LOOPBACK; the query that rode in the frame is answered with data 0 (R126). -/
def syntheticReturn (seq : Half) (query : Option QueryPart) (slot : SlotId) : ModuleReturn :=
  { slot := slot, seq := seq, state := .ready, missing := 0, answer := query.map (fun q => (q.marker, 0)) }

/-- The synthetic returns of a send point in LOOPBACK, one for each mapped slot in ascending order (R126). -/
def syntheticReturns (seq : Half) (query : Option QueryPart) (s : State) : State :=
  if s.line.mode = .loopback then
    (allSlots.filter (fun k => inSlots s.link.mapped k)).foldl (fun s k => takeReturn (syntheticReturn seq query k) s) s
  else s

/-! ### STATUS (R164) -/

/-- The STATUS frame that answers a CYCLE frame, from the state as it stands (Table 9-1). -/
def State.status (seq : Half) (kind : Option FrameKind) (s : State) : Status :=
  { seq := seq, kind := kind, state := s.seq.state, phase := s.seq.phase, cause := s.seq.cause, link := s.link.state,
    attention := attention s.flags s.notice, flags := s.flags, dwell := s.seq.dwell, ci := s.seq.ci,
    repairs := s.needles.log.length }

/-- The STATUS frame is produced, but not in ECHO (R164, R175). -/
def sendStatus (seq : Half) (kind : Option FrameKind) (s : State) : State :=
  if s.line.mode = .echo then s else produce (.status (s.status seq kind)) s

/-! ### The send point (R103) -/

/-- Stages 1 and 2: the band and the link, after the reports still in flight from an earlier send point. -/
def openSendPoint (speed : Nat) (s : State) : State := evalLink (recordBand speed (settleReports s))

/-- Stages 4 to 6 by the kind decided; nothing is sent, written or reported when no frame is sent (R103, R104). -/
def sendKind (seq : Half) (kind : Option FrameKind) (s : State) : State :=
  match kind with
  | some k => sendFrame seq k s
  | none => s

/-- A send point with its STATUS frame; `order` lists the reports taken before the STATUS frame is built (R103, R164, log 2). Requests
that waited behind a query the send point ended execute after it (R166, log 18). -/
def sendPoint (seq : Half) (info : CycleInfo) (order : List Report) (s : State) : State :=
  let s1 := openSendPoint info.speed s
  let kind := s1.decideKind info.run
  let query := s1.link.riding
  let s2 := takeReports order (sendKind seq kind s1)
  drainQueue (sendStatus seq kind (syntheticReturns seq query s2))

end Sys2Proof.Machine
end

