-- ==== Sys2Proof/Machine/Line.lean ====
section
/-!
DEFINITION. The receivers of the stitch line and of the head link, the checks on a received frame, and the acceptance of CYCLE frames
(R161, R163, R175, R183).
-/

namespace Sys2Proof.Machine

/-! ### The receiver (R161) -/

/-- The bytes after a start delimiter make a whole frame: type, length, as many payload bytes as the length says, and two CRC bytes
(R161). -/
def frameComplete : List Byte → Bool
  | t :: len :: rest => decide (4 + len.toNat ≤ (t :: len :: rest).length)
  | _ => false

/-- A receiver takes one byte, and hands on a whole frame (R161). -/
def Receiver.take (b : Byte) : Receiver → Receiver × Option (List Byte)
  | .hunting => (if b = startByte then .inFrame [] else .hunting, none)
  | .inFrame got => if frameComplete (got ++ [b]) then (.hunting, some (got ++ [b])) else (.inFrame (got ++ [b]), none)

/-- The two CRC bytes of a frame agree with its type, length and payload (R161, R162). -/
def crcHolds (g : List Byte) : Bool := g.drop (g.length - 2) == halfBytes (crc (g.take (g.length - 2)))

/-- The payload of a frame: what lies between its length and its CRC. -/
def payloadOf (g : List Byte) : List Byte := (g.take (g.length - 2)).drop 2

/-! ### Downward frames (R161, R163, R165, R175) -/

/-- What a downward frame is by its type and length (R161 second and third check, R180). -/
inductive Downward where
  | cycle (seq : Half) (run : Byte) (speed : Half)
  | mgmt (tag code : Byte) (args : List Byte)
  | bad
  deriving DecidableEq, Repr

/-- A CYCLE payload has length 5 (R180). -/
def readCycle : List Byte → Downward
  | [s1, s0, run, v1, v0] => .cycle (half s1 s0) run (half v1 v0)
  | _ => .bad

/-- A MGMT payload has at least its tag and request code (R180). -/
def readMgmt : List Byte → Downward
  | tag :: code :: args => .mgmt tag code args
  | _ => .bad

/-- The second and third check on a downward frame (R161). -/
def readDownward (g : List Byte) : Downward :=
  if g.head? = some typeCycle then readCycle (payloadOf g)
  else if g.head? = some typeMgmt then readMgmt (payloadOf g)
  else .bad

/-- The distance of a sequence ahead of the last accepted one (R163). -/
def distanceAhead (last seq : Half) : Nat := (seq - last).toNat

/-- What R163 makes of a sequence. -/
inductive Verdict where
  | accept
  | acceptGap
  | discard
  deriving DecidableEq, Repr

/-- A CYCLE frame's sequence is judged against the last accepted one (R163). -/
def judgeSequence (last : Option Half) (seq : Half) : Verdict :=
  match last with
  | none => .accept
  | some l =>
    if distanceAhead l seq = 1 then .accept
    else if 2 ≤ distanceAhead l seq ∧ distanceAhead l seq ≤ 32767 then .acceptGap
    else .discard

/-- Run bit and speed of a CYCLE frame: the reserved bits are ignored and a speed above 4000 is taken as 4000 (R181). -/
def cycleInfo (run : Byte) (speed : Half) : CycleInfo := ⟨run.getLsbD 0, min speed.toNat Config.maxSpeed⟩

/-- A CYCLE frame is accepted: its sequence, run bit and speed are recorded, and the send point follows (R163). -/
def acceptCycle (seq : Half) (run : Byte) (speed : Half) (order : List Report) (s : State) : State :=
  sendPoint seq (cycleInfo run speed) order
    { s with line := { s.line with lastSeq := some seq, latest := some (cycleInfo run speed) } }

/-- A CYCLE frame that passed the checks of R161 (R163). -/
def takeCycle (seq : Half) (run : Byte) (speed : Half) (order : List Report) (s : State) : State :=
  match judgeSequence s.line.lastSeq seq with
  | .accept => acceptCycle seq run speed order s
  | .acceptGap => acceptCycle seq run speed order (setFlag .lineError s)
  | .discard => setFlag .lineError s

/-- A frame that passed the CRC check and found room is echoed in ECHO (R161, R175). -/
def echoFrame (g : List Byte) (s : State) : State :=
  if s.line.mode = .echo then produce (.echo (startByte :: g)) s else s

/-- A whole downward frame is checked and taken (R161). -/
def takeFrame (order : List Report) (g : List Byte) (s : State) : State :=
  if crcHolds g && s.hasRoom then
    match readDownward g with
    | .cycle seq run speed => takeCycle seq run speed order (echoFrame g s)
    | .mgmt tag code args => takeMgmt tag code args (echoFrame g s)
    | .bad => setFlag .lineError (echoFrame g s)
  else setFlag .lineError s

/-- The receiver of the stitch line replaced. -/
def setReceiver (r : Receiver) (s : State) : State := { s with line := { s.line with receiver := r } }

/-- The Line Port receives one byte (R161). -/
def receiveByte (order : List Report) (s : State) (b : Byte) : State :=
  match s.line.receiver.take b with
  | (r, none) => setReceiver r s
  | (r, some g) => takeFrame order g (setReceiver r s)

/-- The Line Port receives bytes on the downward direction (R161). -/
def receive (order : List Report) (bytes : List Byte) (s : State) : State := bytes.foldl (receiveByte order) s

/-- A management request arrives: the Line Port receives the MGMT frame that carries it (R165, R180, log 7). -/
def submit (tag : Byte) (r : Request) (s : State) : State :=
  receive [] (frameBytes typeMgmt (mgmtPayload tag r.code r.args)) s

/-- A CYCLE frame arrives (R163, R180). -/
def submitCycle (seq : Half) (run : Byte) (speed : Half) (order : List Report) (s : State) : State :=
  receive order (frameBytes typeCycle (cyclePayload seq run speed)) s

/-! ### The return direction (R167) -/

/-- The frame being sent has been sent, and the oldest waiting frame is started (R167). -/
def LinePort.frameSent (p : LinePort) : LinePort :=
  match p.sending with
  | none => p
  | some _ => { p with sending := p.waiting.head?, waiting := p.waiting.tail }

/-! ### Circumstances of the event rows (log 5) -/

/-- The CYCLE frame would be accepted: the receiver is hunting, the return direction has room and the sequence is accepted. -/
def State.wouldAccept (seq : Half) (s : State) : Bool :=
  s.line.receiver == .hunting && s.hasRoom && judgeSequence s.line.lastSeq seq != .discard

/-- The wake runs out at the next send point (R120). -/
def State.wakeRunsOut (s : State) : Bool := s.link.state == .waking && decide (Config.wakeLimit ≤ s.link.wakeCount)

/-- A module is lost at the next send point (R123). -/
def State.moduleRunsOut (s : State) : Bool := s.link.state == .active && lostSlots s.link.countMisses.miss != 0

/-- The frame kind the next send point decides. -/
def State.nextKind (run : Byte) (speed : Half) (s : State) : Option FrameKind :=
  (openSendPoint (cycleInfo run speed).speed s).decideKind (cycleInfo run speed).run

/-- The outstanding query runs out at the next send point (R125). -/
def State.queryRunsOut (run : Byte) (speed : Half) (s : State) : Bool :=
  (s.nextKind run speed).isSome && (openSendPoint (cycleInfo run speed).speed s).link.queryRunsOut

/-- The dwell limit is reached at the next send point (R41). -/
def State.dwellRunsOut (run : Byte) (speed : Half) (s : State) : Bool :=
  s.nextKind run speed == some .dwell
    && dwellReached (openSendPoint (cycleInfo run speed).speed s).config.dwellLimit
         (raiseDwell (openSendPoint (cycleInfo run speed).speed s).seq.dwell)

/-! ### The head link receiver (R183) -/

/-- A module return read from a frame of the head link, or nothing when a check of R183 fails. -/
def readReturn (g : List Byte) : Option ModuleReturn :=
  if crcHolds g && g.head? == some typeReturn then decodeReturn (payloadOf g) else none

/-- A whole frame of the head link: a return that passes R183 is taken, anything else is discarded without effect. A query it
answers lets the next request execute (R122, R125, R183). -/
def takeHeadFrame (g : List Byte) (s : State) : State :=
  match readReturn g with
  | some r => drainQueue (takeReturn r s)
  | none => s

/-- The receiver of the head link replaced. -/
def setHeadReceiver (r : Receiver) (s : State) : State := { s with link := { s.link with receiver := r } }

/-- The Head Link Controller receives one byte (R183). -/
def receiveHeadByte (s : State) (b : Byte) : State :=
  match s.link.receiver.take b with
  | (r, none) => setHeadReceiver r s
  | (r, some g) => takeHeadFrame g (setHeadReceiver r s)

/-- Bytes arrive on the head link; in LOOPBACK they are ignored (R126, R183). They do not move the receiver either, so a frame begun
before the change of mode is kept and goes on after it: DESIGN CHOICE, unsafe (log 37). -/
def receiveHead (bytes : List Byte) (s : State) : State :=
  if s.line.mode = .loopback then s else bytes.foldl receiveHeadByte s

end Sys2Proof.Machine
end

