-- ==== Sys2Proof/Machine/Events.lean ====
section
/-!
DEFINITION. The meanings of the commands that are not management requests: power-on reset, frames and bytes on the stitch line, frames
of the head link, accesses of pattern memory, and reports in flight.
-/

namespace Sys2Proof.Machine

/-- What a meaning answers: every command of the part has a next state. -/
abbrev Answered := Host.Outcome State Fault Refusal

/-- POR: every item at its reset value (R18, R44, R74, R129, R149, R160, R178); the commands that wait stay (log 1). -/
def execPor (s : State) : Answered := .next { State.reset with pending := s.pending }

/-- CYCLE_FRAME: the Line Port receives the frame (R161, R163). -/
def execCycleFrame (seq : Half) (run : Byte) (speed : Half) (order : List Report) (s : State) : Answered :=
  .next (submitCycle seq run speed order s)

/-- DISCARDED_FRAME: the Line Port receives the bytes, and discards what fails its checks (R161, log 8). -/
def execDiscardedFrame (bytes : List Byte) (s : State) : Answered := .next (receive [] bytes s)

/-- MGMT_FRAME: the Line Port receives the frame (R161, R165). -/
def execMgmtFrame (tag code : Byte) (args : List Byte) (s : State) : Answered :=
  .next (receive [] (frameBytes typeMgmt (mgmtPayload tag code args)) s)

/-- RETURN_FRAME_SENT: the return frame being sent is finished and the next is started (R167). -/
def execReturnFrameSent (s : State) : Answered := .next { s with line := s.line.frameSent }

/-- WAKE_LIMIT: the CYCLE frame at whose send point the wake runs out; no effect where it would not (R120, log 5). -/
def execWakeLimit (seq : Half) (run : Byte) (speed : Half) (order : List Report) (s : State) : Answered :=
  .next (if s.wouldAccept seq && s.wakeRunsOut then submitCycle seq run speed order s else s)

/-- MODULE_LOSS: the CYCLE frame at whose send point a module is lost; no effect where none would be (R123, log 5). -/
def execModuleLoss (seq : Half) (run : Byte) (speed : Half) (order : List Report) (s : State) : Answered :=
  .next (if s.wouldAccept seq && s.moduleRunsOut then submitCycle seq run speed order s else s)

/-- QUERY_TIMEOUT: the CYCLE frame whose head frame is the fourth after F0; no effect where it is not (R125, log 5). -/
def execQueryTimeout (seq : Half) (run : Byte) (speed : Half) (order : List Report) (s : State) : Answered :=
  .next (if s.wouldAccept seq && s.queryRunsOut run speed then submitCycle seq run speed order s else s)

/-- DWELL_LIMIT: the CYCLE frame whose DWELL frame reaches the dwell limit; no effect where it does not (R41, log 5). -/
def execDwellLimit (seq : Half) (run : Byte) (speed : Half) (order : List Report) (s : State) : Answered :=
  .next (if s.wouldAccept seq && s.dwellRunsOut run speed then submitCycle seq run speed order s else s)

/-- MODULE_RETURN: bytes arrive on the head link (R122, R126, R183). -/
def execModuleReturn (bytes : List Byte) (s : State) : Answered := .next (receiveHead bytes s)

/-- LANE_FETCH_COMPLETION: the access in flight of a lane completes (R7, R9, R51). -/
def execLaneFetchCompletion (l : LaneId) (s : State) : Answered := .next (completeFetch l s)

/-- MANAGEMENT_ACCESS_COMPLETION: the management access in flight completes, and when it ends its request the next executes
(R7, R13, R17, R166). -/
def execManagementAccessCompletion (s : State) : Answered := .next (drainQueue (completeMgmt s))

/-- LANE_CONSUMPTION_REPORT: a lane takes its consumption report (R53, R59). -/
def execLaneConsumptionReport (l : LaneId) (s : State) : Answered := .next (takeLaneReport l s)

/-- PHASE_NOTICE: a lane takes its phase notice (R59, R60, R67, R68). -/
def execPhaseNotice (l : LaneId) (s : State) : Answered := .next (takeNotice l s)

/-- SEQUENCER_CONSUMPTION: the Sequencer takes its consumption report (R34, R35, R36). -/
def execSequencerConsumption (s : State) : Answered := .next (takeSequencerReport s)

/-- PHASE_END: the Sequencer takes the consumption that ends its phase; no effect where it would not (R34, R37, log 5). -/
def execPhaseEnd (s : State) : Answered := .next (if phaseEnds s then takeSequencerReport s else s)

/-- FEED_REPORT: the Tally Unit takes its oldest feed report (R150, R151). -/
def execFeedReport (s : State) : Answered := .next (takeFeedReport s)

end Sys2Proof.Machine
end

