-- ==== Sys2Proof/Machine/Commands.lean ====
section
/-!
DEFINITION. The meanings of the management requests as commands: each is the arrival of the MGMT frame that carries it (log 7).
-/

namespace Sys2Proof.Machine

/-- OPEN_PATTERN arrives (R10). -/
def execOpenPattern (tag n pages : Byte) (s : State) : Answered :=
  .next (submit tag (.openPattern n pages) s)

/-- APPEND_SEGMENTS arrives (R11). -/
def execAppendSegments (tag n : Byte) (first : Half) (records : List SegmentWire) (s : State) : Answered :=
  .next (submit tag (.appendSegments n first records) s)

/-- CLOSE_PATTERN arrives (R14). -/
def execClosePattern (tag n : Byte) (s : State) : Answered :=
  .next (submit tag (.closePattern n) s)

/-- FREE_PATTERN arrives (R15). -/
def execFreePattern (tag n : Byte) (s : State) : Answered :=
  .next (submit tag (.freePattern n) s)

/-- GET_PATTERN arrives (R16). -/
def execGetPattern (tag n : Byte) (s : State) : Answered :=
  .next (submit tag (.getPattern n) s)

/-- READ_SEGMENTS arrives (R17). -/
def execReadSegments (tag n : Byte) (first : Half) (number : Byte) (s : State) : Answered :=
  .next (submit tag (.readSegments n first number) s)

/-- WRITE_PANEL arrives (R20). -/
def execWritePanel (tag slot : Byte) (panel : PanelWire) (s : State) : Answered :=
  .next (submit tag (.writePanel slot panel) s)

/-- READ_PANEL arrives (R21). -/
def execReadPanel (tag slot : Byte) (s : State) : Answered :=
  .next (submit tag (.readPanel slot) s)

/-- SET_LAST arrives (R23). -/
def execSetLast (tag slot : Byte) (s : State) : Answered :=
  .next (submit tag (.setLast slot) s)

/-- RUN arrives (R26, R27). -/
def execRun (tag : Byte) (s : State) : Answered :=
  .next (submit tag .run s)

/-- PAUSE arrives (R28). -/
def execPause (tag : Byte) (s : State) : Answered :=
  .next (submit tag .pause s)

/-- RESET_QUEUE arrives (R42). -/
def execResetQueue (tag : Byte) (s : State) : Answered :=
  .next (submit tag .resetQueue s)

/-- GET_QUEUE arrives (R43). -/
def execGetQueue (tag : Byte) (s : State) : Answered :=
  .next (submit tag .getQueue s)

/-- SET_NEEDLE_SET arrives (R71). -/
def execSetNeedleSet (tag k : Byte) (needles : NeedleSet) (s : State) : Answered :=
  .next (submit tag (.setNeedleSet k needles) s)

/-- GET_NEEDLE_SET arrives (R72). -/
def execGetNeedleSet (tag k : Byte) (s : State) : Answered :=
  .next (submit tag (.getNeedleSet k) s)

/-- GET_LANE arrives (R73). -/
def execGetLane (tag lane : Byte) (s : State) : Answered :=
  .next (submit tag (.getLane lane) s)

/-- SET_INTERLOCK arrives (R91). -/
def execSetInterlock (tag before built rests : Byte) (s : State) : Answered :=
  .next (submit tag (.setInterlock before built rests) s)

/-- GET_INTERLOCK arrives (R92). -/
def execGetInterlock (tag : Byte) (s : State) : Answered :=
  .next (submit tag .getInterlock s)

/-- SET_BAND arrives (R97). -/
def execSetBand (tag row : Byte) (ceiling : Half) (dmax : Vector Half 4) (s : State) : Answered :=
  .next (submit tag (.setBand row ceiling dmax) s)

/-- GET_BAND arrives (R98). -/
def execGetBand (tag : Byte) (s : State) : Answered :=
  .next (submit tag .getBand s)

/-- SET_SLOT_MAP arrives (R115). -/
def execSetSlotMap (tag : Byte) (slots : Vector Byte 4) (feed : Byte) (s : State) : Answered :=
  .next (submit tag (.setSlotMap slots feed) s)

/-- SET_PRESENCE arrives (R116). -/
def execSetPresence (tag lane : Byte) (needles : NeedleSet) (s : State) : Answered :=
  .next (submit tag (.setPresence lane needles) s)

/-- SET_LIMITS arrives (R117). -/
def execSetLimits (tag lane : Byte) (xmin xmax : Half) (s : State) : Answered :=
  .next (submit tag (.setLimits lane xmin xmax) s)

/-- LINK_START arrives (R119). -/
def execLinkStart (tag : Byte) (s : State) : Answered :=
  .next (submit tag .linkStart s)

/-- LINK_STOP arrives (R121). -/
def execLinkStop (tag : Byte) (s : State) : Answered :=
  .next (submit tag .linkStop s)

/-- HEAD_QUERY arrives (R124). -/
def execHeadQuery (tag slot item : Byte) (s : State) : Answered :=
  .next (submit tag (.headQuery slot item) s)

/-- GET_LINK arrives (R128). -/
def execGetLink (tag : Byte) (s : State) : Answered :=
  .next (submit tag .getLink s)

/-- READ_HISTORY arrives (R114). -/
def execReadHistory (tag : Byte) (s : State) : Answered :=
  .next (submit tag .readHistory s)

/-- RESERVE_NEEDLE arrives (R144). -/
def execReserveNeedle (tag lane needle : Byte) (s : State) : Answered :=
  .next (submit tag (.reserveNeedle lane needle) s)

/-- RESTORE_NEEDLE arrives (R145). -/
def execRestoreNeedle (tag lane needle : Byte) (s : State) : Answered :=
  .next (submit tag (.restoreNeedle lane needle) s)

/-- LOCK_NEEDLE arrives (R146). -/
def execLockNeedle (tag lane needle : Byte) (s : State) : Answered :=
  .next (submit tag (.lockNeedle lane needle) s)

/-- GET_NEEDLES arrives (R148). -/
def execGetNeedles (tag lane : Byte) (s : State) : Answered :=
  .next (submit tag (.getNeedles lane) s)

/-- READ_REPAIRS arrives (R141). -/
def execReadRepairs (tag n : Byte) (s : State) : Answered :=
  .next (submit tag (.readRepairs n) s)

/-- RETIRE_REPAIRS arrives (R142). -/
def execRetireRepairs (tag k : Byte) (s : State) : Answered :=
  .next (submit tag (.retireRepairs k) s)

/-- TALLY_CONTROL arrives (R154). -/
def execTallyControl (tag bits : Byte) (s : State) : Answered :=
  .next (submit tag (.tallyControl bits) s)

/-- READ_TALLY arrives (R155). -/
def execReadTally (tag : Byte) (s : State) : Answered :=
  .next (submit tag .readTally s)

/-- SET_MARK arrives (R159). -/
def execSetMark (tag selection : Byte) (metreValue panelValue : Half) (action : Byte) (s : State) : Answered :=
  .next (submit tag (.setMark selection metreValue panelValue action) s)

/-- READ_FLAGS arrives (R170). -/
def execReadFlags (tag : Byte) (s : State) : Answered :=
  .next (submit tag .readFlags s)

/-- CLEAR_FLAGS arrives (R170). -/
def execClearFlags (tag : Byte) (flags : Half) (s : State) : Answered :=
  .next (submit tag (.clearFlags flags) s)

/-- SET_NOTICE arrives (R169). -/
def execSetNotice (tag : Byte) (flags : Half) (s : State) : Answered :=
  .next (submit tag (.setNotice flags) s)

/-- SET_CONFIG_FMAX arrives (R171). -/
def execSetConfigFmax (tag lane : Byte) (value : Half) (s : State) : Answered :=
  .next (submit tag (.setConfig 0 lane value) s)

/-- SET_CONFIG_FGAP arrives (R171). -/
def execSetConfigFgap (tag lane : Byte) (value : Half) (s : State) : Answered :=
  .next (submit tag (.setConfig 1 lane value) s)

/-- SET_CONFIG_T_IN arrives (R171). -/
def execSetConfigTIn (tag lane : Byte) (value : Half) (s : State) : Answered :=
  .next (submit tag (.setConfig 2 lane value) s)

/-- SET_CONFIG_T_OUT arrives (R171). -/
def execSetConfigTOut (tag lane : Byte) (value : Half) (s : State) : Answered :=
  .next (submit tag (.setConfig 3 lane value) s)

/-- SET_CONFIG_DWELL_LIMIT arrives (R171). -/
def execSetConfigDwellLimit (tag lane : Byte) (value : Half) (s : State) : Answered :=
  .next (submit tag (.setConfig 4 lane value) s)

/-- SET_CONFIG_BREAK_ACTION arrives (R147, R171). -/
def execSetConfigBreakAction (tag lane : Byte) (value : Half) (s : State) : Answered :=
  .next (submit tag (.setConfig 5 lane value) s)

/-- GET_CONFIG arrives (R172). -/
def execGetConfig (tag : Byte) (s : State) : Answered :=
  .next (submit tag .getConfig s)

/-- SET_COMPENSATION arrives (R173). -/
def execSetCompensation (tag material : Byte) (sx : Vector Half 4) (sy : Half) (s : State) : Answered :=
  .next (submit tag (.setCompensation material sx sy) s)

/-- GET_COMPENSATION arrives (R173). -/
def execGetCompensation (tag material : Byte) (s : State) : Answered :=
  .next (submit tag (.getCompensation material) s)

/-- SET_MODE arrives (R174). -/
def execSetMode (tag mode : Byte) (s : State) : Answered :=
  .next (submit tag (.setMode mode) s)

/-- LINE_RESET arrives (R176). -/
def execLineReset (tag : Byte) (s : State) : Answered :=
  .next (submit tag .lineReset s)

/-- IDENTIFY arrives (R177). -/
def execIdentify (tag : Byte) (s : State) : Answered :=
  .next (submit tag .identify s)

end Sys2Proof.Machine
end

