-- ==== Sys2Proof/Machine/Dispatch.lean ====
section
/-!
DEFINITION. The effect of each command on everything but the queue: one arm per constructor.
-/

namespace Sys2Proof.Machine

def exec (i : Instr) (s : State) : Host.Outcome State Fault Refusal :=
  match i with
  | .por => Sys2Proof.Machine.execPor s
  | .cycleFrame seq run speed order => Sys2Proof.Machine.execCycleFrame seq run speed order s
  | .discardedFrame bytes => Sys2Proof.Machine.execDiscardedFrame bytes s
  | .mgmtFrame tag code args => Sys2Proof.Machine.execMgmtFrame tag code args s
  | .returnFrameSent => Sys2Proof.Machine.execReturnFrameSent s
  | .wakeLimit seq run speed order => Sys2Proof.Machine.execWakeLimit seq run speed order s
  | .moduleLoss seq run speed order => Sys2Proof.Machine.execModuleLoss seq run speed order s
  | .queryTimeout seq run speed order => Sys2Proof.Machine.execQueryTimeout seq run speed order s
  | .dwellLimit seq run speed order => Sys2Proof.Machine.execDwellLimit seq run speed order s
  | .moduleReturn bytes => Sys2Proof.Machine.execModuleReturn bytes s
  | .laneFetchCompletion lane => Sys2Proof.Machine.execLaneFetchCompletion lane s
  | .managementAccessCompletion => Sys2Proof.Machine.execManagementAccessCompletion s
  | .laneConsumptionReport lane => Sys2Proof.Machine.execLaneConsumptionReport lane s
  | .phaseNotice lane => Sys2Proof.Machine.execPhaseNotice lane s
  | .sequencerConsumption => Sys2Proof.Machine.execSequencerConsumption s
  | .phaseEnd => Sys2Proof.Machine.execPhaseEnd s
  | .feedReport => Sys2Proof.Machine.execFeedReport s
  | .openPattern tag n pages => Sys2Proof.Machine.execOpenPattern tag n pages s
  | .appendSegments tag n first records => Sys2Proof.Machine.execAppendSegments tag n first records s
  | .closePattern tag n => Sys2Proof.Machine.execClosePattern tag n s
  | .freePattern tag n => Sys2Proof.Machine.execFreePattern tag n s
  | .getPattern tag n => Sys2Proof.Machine.execGetPattern tag n s
  | .readSegments tag n first number => Sys2Proof.Machine.execReadSegments tag n first number s
  | .writePanel tag slot panel => Sys2Proof.Machine.execWritePanel tag slot panel s
  | .readPanel tag slot => Sys2Proof.Machine.execReadPanel tag slot s
  | .setLast tag slot => Sys2Proof.Machine.execSetLast tag slot s
  | .run tag => Sys2Proof.Machine.execRun tag s
  | .pause tag => Sys2Proof.Machine.execPause tag s
  | .resetQueue tag => Sys2Proof.Machine.execResetQueue tag s
  | .getQueue tag => Sys2Proof.Machine.execGetQueue tag s
  | .setNeedleSet tag k needles => Sys2Proof.Machine.execSetNeedleSet tag k needles s
  | .getNeedleSet tag k => Sys2Proof.Machine.execGetNeedleSet tag k s
  | .getLane tag lane => Sys2Proof.Machine.execGetLane tag lane s
  | .setInterlock tag before built rests => Sys2Proof.Machine.execSetInterlock tag before built rests s
  | .getInterlock tag => Sys2Proof.Machine.execGetInterlock tag s
  | .setBand tag row ceiling dmax => Sys2Proof.Machine.execSetBand tag row ceiling dmax s
  | .getBand tag => Sys2Proof.Machine.execGetBand tag s
  | .setSlotMap tag slots feed => Sys2Proof.Machine.execSetSlotMap tag slots feed s
  | .setPresence tag lane needles => Sys2Proof.Machine.execSetPresence tag lane needles s
  | .setLimits tag lane xmin xmax => Sys2Proof.Machine.execSetLimits tag lane xmin xmax s
  | .linkStart tag => Sys2Proof.Machine.execLinkStart tag s
  | .linkStop tag => Sys2Proof.Machine.execLinkStop tag s
  | .headQuery tag slot item => Sys2Proof.Machine.execHeadQuery tag slot item s
  | .getLink tag => Sys2Proof.Machine.execGetLink tag s
  | .readHistory tag => Sys2Proof.Machine.execReadHistory tag s
  | .reserveNeedle tag lane needle => Sys2Proof.Machine.execReserveNeedle tag lane needle s
  | .restoreNeedle tag lane needle => Sys2Proof.Machine.execRestoreNeedle tag lane needle s
  | .lockNeedle tag lane needle => Sys2Proof.Machine.execLockNeedle tag lane needle s
  | .getNeedles tag lane => Sys2Proof.Machine.execGetNeedles tag lane s
  | .readRepairs tag n => Sys2Proof.Machine.execReadRepairs tag n s
  | .retireRepairs tag k => Sys2Proof.Machine.execRetireRepairs tag k s
  | .tallyControl tag bits => Sys2Proof.Machine.execTallyControl tag bits s
  | .readTally tag => Sys2Proof.Machine.execReadTally tag s
  | .setMark tag selection metreValue panelValue action => Sys2Proof.Machine.execSetMark tag selection metreValue panelValue action s
  | .readFlags tag => Sys2Proof.Machine.execReadFlags tag s
  | .clearFlags tag flags => Sys2Proof.Machine.execClearFlags tag flags s
  | .setNotice tag flags => Sys2Proof.Machine.execSetNotice tag flags s
  | .setConfigFmax tag lane value => Sys2Proof.Machine.execSetConfigFmax tag lane value s
  | .setConfigFgap tag lane value => Sys2Proof.Machine.execSetConfigFgap tag lane value s
  | .setConfigTIn tag lane value => Sys2Proof.Machine.execSetConfigTIn tag lane value s
  | .setConfigTOut tag lane value => Sys2Proof.Machine.execSetConfigTOut tag lane value s
  | .setConfigDwellLimit tag lane value => Sys2Proof.Machine.execSetConfigDwellLimit tag lane value s
  | .setConfigBreakAction tag lane value => Sys2Proof.Machine.execSetConfigBreakAction tag lane value s
  | .getConfig tag => Sys2Proof.Machine.execGetConfig tag s
  | .setCompensation tag material sx sy => Sys2Proof.Machine.execSetCompensation tag material sx sy s
  | .getCompensation tag material => Sys2Proof.Machine.execGetCompensation tag material s
  | .setMode tag mode => Sys2Proof.Machine.execSetMode tag mode s
  | .lineReset tag => Sys2Proof.Machine.execLineReset tag s
  | .identify tag => Sys2Proof.Machine.execIdentify tag s

end Sys2Proof.Machine
end

