-- ==== Sys2Proof/Safety.lean ====
section
/-!
DEFINITION. What a sound run keeps, in the terms the claims use: the invariants of the machine, the state of a part that is ready to take
a request or a CYCLE frame, and what a lane, the Sequencer and the Pattern Port are left as by the events of a run, written out from the
tables of the spec apart from the machine's own operations.
-/

namespace Sys2Proof.Machine

/-! ### Pattern memory -/

/-- Of each directory entry: whether it is EMPTY, and its page list. -/
def PatternStore.layout (st : PatternStore) : Vector (Bool × List Nat) 128 := st.dir.map (fun e => (e.state == .empty, e.pages))

/-- Every page of pattern memory is free or belongs to exactly one pattern, the free pages stand in ascending order, and a pattern has pages
exactly when it is not EMPTY (R1, R3, R5). -/
def PatternStore.pagesSound (st : PatternStore) : Prop :=
  (st.free ++ st.layout.toList.flatMap Prod.snd).Perm (List.range 512) ∧ st.free.Pairwise (· < ·)
    ∧ ∀ n : PatternId, st.layout[n].1 = true ↔ st.layout[n].2 = []

/-- Pattern memory is in its canonical form (log 29). -/
abbrev Memory.wf (s : State) : Prop := memWf s.store.mem = true

/-! ### Lines -/

/-- The management queue holds at most four requests, and together with the return frames waiting it stays within the sixteen frames of
the return direction (R166, R167). -/
def State.returnSound (s : State) : Prop := s.mgmt.queue.length ≤ 4 ∧ s.line.waiting.length + s.mgmt.queue.length ≤ 16

/-- While the Sequencer is RUNNING the head link is ACTIVE (R121). -/
def State.linkSound (s : State) : Prop := s.seq.state = .running → s.link.state = .active

/-- While the mode is ECHO the Sequencer is STOPPED, the link is OFF, no request waits and no feed report is in flight, so the counts of the
tally stand still (R127, R160, R174, R175). -/
def State.echoSound (s : State) : Prop :=
  s.line.mode = .echo → s.seq.state = .stopped ∧ s.link.state = .off ∧ s.mgmt.queue = [] ∧ s.reports.feeds = []

/-! ### Ranges -/

/-- The config table lies in the ranges of Table 9-5, and the compensation, interlock and speed band tables in theirs
(R90, R93, R171, R173). -/
def State.tablesSound (s : State) : Prop :=
  (1 ≤ s.config.fgap ∧ s.config.fgap ≤ s.config.fmax ∧ s.config.fmax ≤ 400 ∧ s.config.tIn ≤ 7 ∧ s.config.tOut ≤ 7
      ∧ s.config.dwellLimit ≤ 255)
    ∧ (∀ m : Fin 16, (∀ l : LaneId, 3686 ≤ s.comp[m].sx[l] ∧ s.comp[m].sx[l] ≤ 4915)
        ∧ 3686 ≤ s.comp[m].sy ∧ s.comp[m].sy ≤ 4915)
    ∧ (∀ k : Fin 16, s.interlock[k] ≤ 7)
    ∧ ∀ k : Fin 8, s.asm.bands[k].ceiling ≤ 4000 ∧ ∀ l : LaneId, 1 ≤ s.asm.bands[k].dmax[l] ∧ s.asm.bands[k].dmax[l] ≤ 255

/-- The counters of the head link, the tally, the dwell run, the history and the repair log lie in their ranges
(R40, R112, R118, R124, R138, R150). -/
def State.countersSound (s : State) : Prop :=
  s.link.wakeCount ≤ 32 ∧ (∀ k : SlotId, s.link.miss[k] ≤ 3) ∧ 1 ≤ s.link.marker ∧ s.link.marker ≤ 15
    ∧ s.tally.steps < 20 ∧ s.tally.mm < 1000 ∧ s.seq.dwell ≤ 255 ∧ s.asm.history.length ≤ 8 ∧ s.needles.log.length ≤ 64

/-! ### A part at rest -/

/-- The Line Port can take a downward frame in NORMAL or LOOPBACK: it is hunting and the return direction has room (R161). -/
def State.receptive (s : State) : Prop := s.line.receiver = .hunting ∧ s.line.waiting.length < 10 ∧ s.line.mode ≠ .echo

/-- The part can execute a request on arrival: it is receptive, and no request waits or holds the head (R165, R166). -/
def State.attentive (s : State) : Prop := s.receptive ∧ s.mgmt = ⟨[], none⟩

/-- A request answered: its REPLY is produced after its effects (R167). -/
def answered (tag : Byte) (r : Request) (result : Result) (data : List Byte) (s : State) : State :=
  produce (.reply tag r.code result data) s

/-! ### Pins, fetches and resets, seen from the state before them -/

/-- How many lanes of a descriptor refer to a pattern (R6). -/
def Descriptor.references (d : Descriptor) (n : PatternId) : Nat := (allLanes.filter (fun l => d.patterns[l] = some n)).length

/-- How many lane references to a pattern the current and the prefetched context hold together (R6). -/
def State.references (s : State) (n : PatternId) : Nat :=
  (match s.seq.current with
    | some ctx => ctx.desc.references n
    | none => 0)
  + match s.seq.prefetch with
    | .held _ ctx => ctx.desc.references n
    | _ => 0

/-- The directory with the pin count of every pattern replaced (R6). -/
def PatternStore.withPins (pins : PatternId → Nat) (st : PatternStore) : PatternStore :=
  { st with dir := Vector.ofFn (fun n => { st.dir[n] with pins := pins n }) }

/-- The request of every lane of a choice cancelled: withdrawn where it waits, marked where it is in flight (R9). -/
def PatternStore.withoutLanes (gone : LaneId → Bool) (st : PatternStore) : PatternStore :=
  let of := fun r : Requester => allLanes.any (fun l => gone l && r == laneRequester l)
  { st with
    waiting := Vector.ofFn (fun r => if of r then none else st.waiting[r])
    inFlight := st.inFlight.map (fun a => if of a.who then { a with cancelled := true } else a) }

/-- The Sequencer and every lane at their reset state: pins released, lane fetches cancelled, no report in flight (R9, R18, R42, R74). -/
def State.panelsReset (s : State) : State :=
  { s with
    seq := Sequencer.reset
    lanes := Vector.replicate 4 Lane.reset
    store := (s.store.withPins (fun n => s.store.dir[n].pins - s.references n)).withoutLanes (fun _ => true)
    reports := Reports.none }

/-- A panel completed, before the choice that follows, with no mark selected: it is tallied, PANEL_DONE is set if asked, the pins are
released, the context is discarded and every fitted lane is told (R37, R152). -/
def State.panelClosed (ctx : Context) (s : State) : State :=
  { s with
    seq := { s.seq with current := none, ciStatus := .completed }
    tally := if s.tally.run then { s.tally with panels := s.tally.panels + 1 } else s.tally
    flags := if ctx.desc.notice then s.flags ||| Flag.panelDone.mask else s.flags
    store := (s.store.withPins (fun n => s.store.dir[n].pins - ctx.desc.references n)).withoutLanes s.fitted
    reports := { s.reports with
      notices := Vector.ofFn (fun l => if s.fitted l then some (.panelEnd none) else s.reports.notices[l]) } }

/-! ### A prefetch attempt, seen from the state before it (R29 to R31) -/

/-- Check 1, 2, 3 or 5 fails on the slot, check 5 with every pattern READY (R30). -/
def State.panelFails (h : RingIndex) (s : State) : Prop :=
  s.seq.ring[h] = none ∨ ∃ d, s.seq.ring[h] = some d ∧
    (d.patterns[d.feedLane] = none ∨ (∃ l : LaneId, d.patterns[l].isSome = true ∧ s.fitted l = false)
      ∨ ∃ n : PatternId, d.patterns[d.feedLane] = some n
        ∧ (∀ (l : LaneId) (m : PatternId), d.patterns[l] = some m → s.store.dir[m].state = .ready)
        ∧ s.config.fmax < (s.store.dir[n].maxDy * s.comp[d.material].sy + 4095) / 4096)

/-- Checks 1 to 3 hold on the slot and check 4 fails (R30). -/
def State.panelBlocks (h : RingIndex) (s : State) : Prop :=
  ∃ d, s.seq.ring[h] = some d ∧ d.patterns[d.feedLane].isSome = true
    ∧ (∀ l : LaneId, d.patterns[l].isSome = true → s.fitted l = true)
    ∧ ∃ (l : LaneId) (m : PatternId), d.patterns[l] = some m ∧ s.store.dir[m].state ≠ .ready

/-- Every check holds on the slot, which holds descriptor `d` (R30). -/
def State.panelPasses (h : RingIndex) (d : Descriptor) (s : State) : Prop :=
  s.seq.ring[h] = some d ∧ (∀ l : LaneId, d.patterns[l].isSome = true → s.fitted l = true)
    ∧ (∀ (l : LaneId) (m : PatternId), d.patterns[l] = some m → s.store.dir[m].state = .ready)
    ∧ ∃ n : PatternId, d.patterns[d.feedLane] = some n
      ∧ (s.store.dir[n].maxDy * s.comp[d.material].sy + 4095) / 4096 ≤ s.config.fmax

/-- The context a passing prefetch of `d` builds: a copy of the descriptor, the origins of lanes with a pattern clamped into the travel
limits, and the factors of the material class (R31). -/
def State.builds (d : Descriptor) (ctx : Context) (s : State) : Prop :=
  ctx.desc = { d with origins := ctx.desc.origins }
    ∧ (∀ l : LaneId, ctx.desc.origins[l] = if d.patterns[l].isSome then clampPos s.link.limits[l] d.origins[l] else d.origins[l])
    ∧ ctx.sx = s.comp[d.material].sx ∧ ctx.sy = s.comp[d.material].sy

/-- What a passing prefetch does besides its context: its pins are placed, and CLAMP is set where an origin was clamped (R6, R31). -/
def State.pinned (d : Descriptor) (ctx : Context) (s : State) : State :=
  { s with
    store := s.store.withPins (fun n => s.store.dir[n].pins + d.references n)
    flags := if ctx.desc.origins = d.origins then s.flags else s.flags ||| Flag.clamp.mask }

/-- From `s`, with a panel current, the next prefetch has been attempted and has left `t` (R29, R30, R31). -/
def State.prefetches (s t : State) : Prop :=
  let h := s.seq.ci + 1
  (s.panelFails h → t = { s with
      seq := { s.seq with prefetch := .faulted h }, flags := s.flags ||| Flag.descriptorFault.mask })
  ∧ (s.panelBlocks h → t = { s with seq := { s.seq with prefetch := .blocked h } })
  ∧ ∀ d, s.panelPasses h d → ∃ ctx, s.builds d ctx
      ∧ t = { s.pinned d ctx with seq := { s.seq with prefetch := .held h ctx } }

/-! ### Lanes, seen from the state before them (R48 to R66, R75 to R82) -/

/-- The needles of a lane that a segment's needle mode names and that are present (R63). -/
def State.namedNeedles (s : State) (l : LaneId) (g : Segment) : NeedleSet :=
  (match g.mode with
    | .all => BitVec.allOnes 48
    | .set k => s.needleSets[k]) &&& s.link.presence[l]

/-- The lane with a record of a class, a target and a base mask built at once, which moves no coordinate and feeds nothing: its rests
are the interlock entry from the last class to the class built, HOLD counting as JUMP (R58, R64, R65). -/
def State.plainBuild (s : State) (c : RecClass) (target : Option Nat) (mask : NeedleSet) (ln : Lane) : Lane :=
  { ln with
    ready := some ⟨c, target, mask, s.interlock[interlockIndex ln.lastClass.index c.counted.index], none, false⟩
    lastClass := c.counted
    target := if target.isSome then target else ln.target
    buildWaiting := false
    undo := some ⟨ln.x, ln.y, ln.lastClass, ln.target, ln.lastMask⟩ }

/-- The segment moves the bar sideways and feeds: STITCH and JUMP (R62, R66). -/
abbrev Segment.moving (g : Segment) : Prop := g.kind = .stitch ∨ g.kind = .jump

/-- X_pat once a record of the segment is built: dx added, saturated at 131071 on both sides (R75). -/
def Lane.nextX (ln : Lane) (g : Segment) : Int :=
  if ¬ g.moving then ln.x else if 131071 < ln.x + g.dx then 131071 else if ln.x + g.dx < -131071 then -131071 else ln.x + g.dx

/-- The target of a record of the segment before it is clamped: X_pat scaled, rounded away from zero at halves, added to the origin
(R79, R80). -/
def Lane.rawTarget (ln : Lane) (g : Segment) : Int :=
  let size : Int := (((ln.nextX g * ln.sx).natAbs + 2048) / 4096 : Nat)
  ln.origin + if ln.nextX g * ln.sx < 0 then -size else size

/-- The target of a record of the segment, clamped into the travel limits of the lane (R80). -/
def State.bodyTarget (s : State) (l : LaneId) (g : Segment) (ln : Lane) : Int :=
  let lo : Int := s.link.limits[l].xmin
  let hi : Int := s.link.limits[l].xmax
  if ln.rawTarget g < lo then lo else if hi < ln.rawTarget g then hi else ln.rawTarget g

/-- Y_pat of the feed lane would pass its maximum with the segment's dy (R78). -/
abbrev Lane.passesY (ln : Lane) (g : Segment) : Prop := ln.role = .feed ∧ g.moving ∧ 16777215 < ln.y + g.dy

/-- The lane with the BODY record of its current segment built: cycle `c` of segment `i`, whose record `g` is (R54, R61 to R66, R75 to
R80, R82). -/
def State.bodyBuild (s : State) (l : LaneId) (i c : Nat) (g : Segment) (ln : Lane) : Lane :=
  let target := some (s.bodyTarget l g ln).toNat
  let mask := if g.kind = .stitch ∨ g.kind = .tack then s.namedNeedles l g else 0
  let y := if ln.passesY g then 16777215 else if ln.role = .feed ∧ g.moving then ln.y + g.dy else ln.y
  let feed := if g.moving ∧ ¬ ln.passesY g then (y * ln.sy + 2048) / 4096 - (ln.y * ln.sy + 2048) / 4096 else 0
  let last := ln.pattern.any (fun n => i + 1 = s.store.dir[n].count)
  { ln with
    ready := some ⟨g.kind.recClass, target, mask, s.interlock[interlockIndex ln.lastClass.index g.kind.index],
      if ln.role = .feed then some feed else none,
      decide (ln.role = .feed ∧ last = true ∧ c + 1 = if g.kind = .trim then 1 else g.count)⟩
    x := ln.nextX g
    y := y
    lastClass := g.kind
    target := target
    lastMask := if g.kind = .stitch then some mask else ln.lastMask
    buildWaiting := false
    undo := some ⟨ln.x, ln.y, ln.lastClass, ln.target, ln.lastMask⟩ }

/-- A BODY record of the segment has a clamp found in it: X_pat, the target or Y_pat (R88, R89). -/
abbrev State.bodyClamps (s : State) (l : LaneId) (g : Segment) (ln : Lane) : Prop :=
  (g.moving ∧ ln.nextX g ≠ ln.x + g.dx) ∨ s.bodyTarget l g ln ≠ ln.rawTarget g ∨ ln.passesY g

/-- The lane walks a pattern (R45). -/
abbrev Lane.walking (ln : Lane) : Prop := ln.role = .pattern ∨ ln.role = .feed

/-- What a build begun for a phase makes of lane `l`, which stands at `ln`: the record Table 3-5 names, or, in TIE_IN and BODY of a lane
with a pattern whose current segment is absent, a build that waits (R58, R61). -/
def State.laneBuild (s : State) (l : LaneId) (p : PanelPhase) (ln : Lane) : Lane :=
  if ¬ ln.walking then s.plainBuild .hold ln.target 0 ln
  else match p, ln.cur with
    | .gap, _ => s.plainBuild .jump (some ln.origin) 0 ln
    | .tieIn, .record _ _ g =>
      if g.kind = .stitch then s.plainBuild .tack (some ln.origin) (s.namedNeedles l g) ln else s.plainBuild .hold ln.target 0 ln
    | .body, .record i c g => s.bodyBuild l i c g ln
    | .tieOut, _ => match ln.lastMask with
      | some m => s.plainBuild .tack ln.target m ln
      | none => s.plainBuild .hold ln.target 0 ln
    | .trimOut, _ => s.plainBuild .trim ln.target 0 ln
    | _, _ => { ln with buildWaiting := true }

/-- The flags after that build: CLAMP is set where it finishes and finds a clamp (R88, R89). -/
def State.flagsBuilt (s : State) (l : LaneId) (p : PanelPhase) (ln : Lane) : FlagSet :=
  match p, ln.cur with
  | .body, .record _ _ g => if ln.walking ∧ s.bodyClamps l g ln then s.flags ||| Flag.clamp.mask else s.flags
  | _, _ => s.flags

/-- The lane with its ready record consumed and removed: a record of the feed lane in BODY counts in Y_fed and in the stitch index, and a
repeat end other than the last raises the repeat index and puts the stitch index back to 0 (R54, R55, R84). -/
def Lane.spent (ln : Lane) : Lane :=
  match ln.ready with
  | none => ln
  | some r =>
    let wraps := r.repeatEnd = true ∧ ln.repeatIdx + 1 ≠ ln.repeats
    { ln with
      ready := none
      undo := none
      yFed := ln.yFed + r.feed.getD 0
      repeatIdx := if r.feed.isSome ∧ wraps then ln.repeatIdx + 1 else ln.repeatIdx
      stitchIdx := if r.feed.isNone then ln.stitchIdx else if wraps then 0 else ln.stitchIdx + 1 }

/-- The lane with its walk moved on by one cycle: an exhausted segment gives way to the next entry (R49, R53). -/
def Lane.walked (ln : Lane) : Lane :=
  match ln.cur with
  | .record i c g =>
    if c + 1 = if g.kind = .trim then 1 else g.count then { ln with cur := ln.nxt, nxt := .absent }
    else { ln with cur := .record i (c + 1) g }
  | _ => ln

/-- Lane `l`, which stands at `ln` and walks pattern `n`, requests the following segment where its current entry is a record with no entry
behind it (R50); not while the notice of its panel's end is in flight to it (log 27). -/
def State.following (s : State) (l : LaneId) (n : PatternId) (ln : Lane) (st : PatternStore) : Lane × PatternStore :=
  match s.panelOver l, ln.cur, ln.nxt with
  | false, .record i _ _, .absent =>
    let j := (i + 1) % s.store.dir[n].count
    ({ ln with nxt := .fetch j }, st.request (laneRequester l) (s.store.dir[n].pages.getD (j / 32) 0 * 32 + j % 32))
  | _, _, _ => (ln, st)

/-! ### A panel made current, seen from the state before it (R33, R45, R48, R50) -/

/-- The first phase present of a panel (R33, Table 2-3). -/
def State.firstOf (s : State) (d : Descriptor) : PanelPhase :=
  if 0 < d.gap then .gap else if d.tieIn = true ∧ 0 < s.config.tIn then .tieIn else .body

/-- What a context hands a lane, with the phase the panel starts in (R45, R48). -/
def Context.share (ctx : Context) (p : PanelPhase) (l : LaneId) : LaneJob :=
  { role := if ctx.desc.patterns[l] = none then .hold else if l = ctx.desc.feedLane then .feed else .pattern
    pattern := ctx.desc.patterns[l]
    origin := ctx.desc.origins[l]
    sx := ctx.sx[l]
    sy := ctx.sy
    repeats := ctx.desc.repeats
    first := p }

/-- A lane that has taken its share of a panel, before its first build: last class and present target are kept, and a lane with a pattern
has its fetch of segment 0 outstanding (R48, R50, R55). -/
def Lane.begun (j : LaneJob) (ln : Lane) : Lane :=
  { ln with
    phase := .work j.first, role := j.role, pattern := j.pattern, origin := j.origin, sx := j.sx, sy := j.sy, repeats := j.repeats
    x := if j.first = .body then 0 else ln.x
    y := if j.first = .body then 0 else ln.y
    cur := if j.role = .pattern ∨ j.role = .feed then .fetch 0 else .absent
    nxt := .absent
    lastMask := none, repeatIdx := 0, stitchIdx := 0, yFed := 0, ready := none, buildWaiting := false, noticeDue := false
    undo := none }

/-- Lane `l` once it has been handed a panel: it has begun the build of its first record (R48, R58). -/
def State.laneStarted (s : State) (l : LaneId) (j : LaneJob) : Lane := s.laneBuild l j.first (s.lanes[l].begun j)

/-- The requester has a request for the location that is not cancelled, waiting or in flight (R7, R9). -/
def PatternStore.asks (st : PatternStore) (r : Requester) (a : Nat) : Prop :=
  st.waiting[r] = some a ∨ st.inFlight = some ⟨r, a, false⟩

/-- From the port of `st`, with the requests of the lanes that start withdrawn or cancelled, every starting lane with a pattern has asked
for segment 0, and the port has gone on to `after`. Which of them the port serves first is not said (R9, R50, log 34). -/
def PatternStore.asksFirst (starts : LaneId → Bool) (ctx : Context) (st after : PatternStore) : Prop :=
  let cut := st.withoutLanes starts
  after = { st with inFlight := after.inFlight, waiting := after.waiting, lastGrant := after.lastGrant }
    ∧ (∀ a, cut.inFlight = some a → after.inFlight = some a)
    ∧ (∀ (r : Requester) (a : Nat), after.asks r a ↔ cut.asks r a ∨ ∃ (l : LaneId) (n : PatternId), r = laneRequester l ∧ starts l = true
        ∧ ctx.desc.patterns[l] = some n ∧ a = st.dir[n].pages.getD 0 0 * 32)
    ∧ ((∀ l : LaneId, starts l = false) → after = st)

/-- A panel has been made current from `ctx` at slot `h`, from `s`, and has left `t` (R33): the serial is raised, the first phase present is
entered with its counter, and entry to BODY with LVI other than CI has first attempted the next prefetch (R29, R35, R36); every fitted
lane is handed its share, at once, or with the notice of the panel's end that is still in flight to it (log 21). -/
def State.makesCurrent (h : RingIndex) (ctx : Context) (s t : State) : Prop :=
  let p := s.firstOf ctx.desc
  let opened := { s with seq := { s.seq with
    ci := h, ciStatus := .current, prefetch := .none, current := some ctx, serial := s.seq.serial + 1, phase := .panel p
    gapRem := if p = .gap then ctx.desc.gap else s.seq.gapRem
    tie := if p = .tieIn then s.config.tIn else s.seq.tie
    repeats := if p = .body then 0 else s.seq.repeats } }
  let starts := fun l => s.fitted l && !s.panelOver l
  ∃ u : State, (if p = .body ∧ s.seq.lvi ≠ h then opened.prefetches u else u = opened)
    ∧ t = { u with lanes := t.lanes, store := t.store, reports := { s.reports with notices := t.reports.notices } }
    ∧ (∀ l : LaneId, t.lanes[l] = if starts l then s.laneStarted l (ctx.share p l) else s.lanes[l])
    ∧ (∀ l : LaneId, t.reports.notices[l] =
        if s.fitted l && s.panelOver l then some (.panelEnd (some (ctx.share p l))) else s.reports.notices[l])
    ∧ u.store.asksFirst starts ctx t.store

/-- From `s`, RUNNING with no panel current, the prefetch of slot `h` has been attempted and has left `t`; `enters` says that a block
enters WAIT, where it is not in WAIT already (R26, R29, R30, R31, R33, R38). -/
def State.starts (enters : Bool) (h : RingIndex) (s t : State) : Prop :=
  (s.panelFails h → t = { s with
      seq := { s.seq with prefetch := .faulted h, state := .paused, cause := .descriptor, phase := .none }
      flags := s.flags ||| Flag.descriptorFault.mask })
  ∧ (s.panelBlocks h → t = { s with
      seq := { s.seq with prefetch := .blocked h, phase := if enters then .wait else s.seq.phase }
      flags := if enters then s.flags ||| Flag.panelWait.mask else s.flags })
  ∧ ∀ d, s.panelPasses h d → ∃ ctx, s.builds d ctx ∧ (s.pinned d ctx).makesCurrent h ctx t

/-! ### Commands one after another -/

/-- The command by which a report in flight is taken (R34, R59, R150). -/
def takenBy : Report → Instr
  | .lane l => .laneConsumptionReport l
  | .sequencer => .sequencerConsumption
  | .notice l => .phaseNotice l
  | .feed => .feedReport

/-- The commands, executed one after another from `s`, leave `t`. -/
def State.runs : List Instr → State → State → Prop
  | [], s, t => t = s
  | c :: rest, s, t => ∃ u, exec c s = .next u ∧ u.runs rest t

/-- Of a command `c` that reaches a request holding the head of the queue: one request more behind it is taken after those before it, as if
it came on its own once `c` and they are done with: it executes where nothing holds the head any more, else it waits on (R166). A change
into ECHO among those before it removes it unexecuted (R174). -/
def State.queueGoesOn (c : Instr) (s : State) : Prop :=
  ∀ (x : Entry) (u : State), s.mgmt.active.isSome = true → 1 ≤ s.mgmt.queue.length → s.mgmt.queue.length < 4 → s.line.mode ≠ .echo →
    x.req.wellFormed = true → exec c s = .next u →
    let more := { s with mgmt := { s.mgmt with queue := s.mgmt.queue ++ [x] } }
    (u.receptive → exec c more = exec (.mgmtFrame x.tag x.req.code x.req.args) u) ∧ (u.line.mode = .echo → exec c more = .next u)

/-! ### A send point, seen from the state before it -/

/-- A CYCLE frame of this sequence is the next send point of a part at rest in NORMAL mode, with no report in flight but phase notices to
the lanes (R161, R163). -/
def State.cycleReady (seq : Half) (s : State) : Prop :=
  s.attentive ∧ s.line.mode = .normal ∧ s.reports = { Reports.none with notices := s.reports.notices }
    ∧ (s.line.lastSeq = none ∨ s.line.lastSeq = some (seq - 1))

/-- The link is ACTIVE, every mapped slot has answered READY since the last send point, no slot is lost and no query is outstanding
(R123). -/
def State.linkUp (s : State) : Prop :=
  s.link.state = .active ∧ s.link.mapped &&& ~~~s.link.seen = 0 ∧ (∀ k : SlotId, s.link.miss[k] < 3) ∧ s.link.query = none

/-- The state with the CYCLE frame recorded and its band selected (R94, R96, R163, R181). -/
def State.opened (seq : Half) (run : Byte) (speed : Half) (s : State) : State :=
  { s with
    line := { s.line with lastSeq := some seq, latest := some ⟨run.getLsbD 0, min speed.toNat 4000⟩ }
    asm := { s.asm with selection := some ⟨min speed.toNat 4000, selectBand s.asm.bands (min speed.toNat 4000)⟩ } }

/-- The lane parts of a frame that holds every bar and lifts every needle (R105, R107). -/
def State.heldParts (s : State) : List LanePart :=
  allLanes.filterMap (fun l => s.link.slotLane[l].map (fun k => ⟨k, s.asm.pos[l], 0, false⟩))

/-- The state with a frame driven and written into the history, the bars standing at `pos` (R105, R111, R112). The frame puts the head link
receiver back to hunting (log 20). -/
def State.framed (f : HeadFrame) (pos : Vector Nat 4) (s : State) : State :=
  { s with
    asm := { s.asm with
      pos := pos
      carryPending := false
      history := ({ seq := f.seq, kind := f.kind, serial := s.seq.serial, phase := s.seq.phase, repeatIdx := s.repeatIdx,
                    stitchIdx := s.stitchIdx, yFed := s.yFed, pos := pos } :: s.asm.history).take 8 }
    link := { s.link with out := some f, receiver := .hunting } }

/-- The STATUS frame of a send point is produced (R164, Table 9-1). -/
def State.withStatus (seq : Half) (kind : Option FrameKind) (s : State) : State :=
  produce (.status { seq := seq, kind := kind, state := s.seq.state, phase := s.seq.phase, cause := s.seq.cause,
                     link := s.link.state, attention := s.flags &&& s.notice != 0, flags := s.flags, dwell := s.seq.dwell,
                     ci := s.seq.ci, repairs := s.needles.log.length }) s

/-- Every fitted lane offers a ready record (R57). -/
def State.recordsOffered (s : State) : Prop :=
  ∀ l : LaneId, s.fitted l = true → ∃ r, s.lanes[l].ready = some r ∧ s.lanes[l].noticeDue = false

/-- The record is settled at a bar position under a Dmax (R99). -/
def Ready.settled (r : Ready) (pos dmax : Nat) : Prop :=
  r.rests = 0 ∧ ((r.cls = .stitch ∨ r.cls = .tack ∨ r.cls = .trim) → ∀ t, r.target = some t → t ≤ pos + dmax ∧ pos ≤ t + dmax)

/-- The Dmax of a lane at a send point of this speed (R94, R95, R181). -/
def State.dmaxAt (speed : Half) (s : State) (l : LaneId) : Nat :=
  s.asm.bands[selectBand s.asm.bands (min speed.toNat 4000)].dmax[l]

/-- The positions after a STEP or ADVANCE frame: each fitted lane's bar moves toward the target of its record by the lesser of its
travel and its Dmax (R106). -/
def State.barsMoved (speed : Half) (s : State) : Vector Nat 4 :=
  Vector.ofFn (fun l => match s.fitted l, s.lanes[l].ready.bind Ready.target with
    | true, some t =>
      if s.asm.pos[l] ≤ t then min t (s.asm.pos[l] + s.dmaxAt speed l) else max t (s.asm.pos[l] - s.dmaxAt speed l)
    | _, _ => s.asm.pos[l])

/-- The conditions under which a send point stitches or steps rather than stands: ready, the run bit set, the line RUNNING in a panel
phase, no position carry pending, every fitted lane offering a record (R104). -/
def State.stitching (seq : Half) (run : Byte) (s : State) : Prop :=
  s.cycleReady seq ∧ s.linkUp ∧ run.getLsbD 0 = true ∧ s.seq.state = .running ∧ s.asm.carryPending = false
    ∧ s.seq.phase ≠ .wait ∧ s.recordsOffered

end Sys2Proof.Machine
end

