-- ==== Sys2Proof/WellFormed.lean ====
section
/-!
DEFINITION. Which commands a sender can send at all. Every operand but three has exactly the values its field holds, so
only lengths are left to check: a MGMT payload has at most 255 bytes with its tag and code (R180), and APPEND_SEGMENTS
carries one to eight records (R11, Table 10-5).
-/

namespace Sys2Proof

/-- The command can be put on the line: its lengths fit the frame that carries it. -/
def Instr.wellFormed : Instr → Bool
  | .mgmtFrame _ _ args => decide (args.length ≤ 253)
  | .appendSegments _ _ _ records => decide (1 ≤ records.length ∧ records.length ≤ 8)
  | _ => true

end Sys2Proof
end

