-- ==== Sys2Proof/Certificates/Slice0/Obligations.lean ====
section
/-!
DEFINITION. The statements for the provers, from the numbered rules of spec/. `answered tag r result data t` is state `t` with the REPLY of
request `r` produced; an equation `exec c s = .next t` with `t` written as an update of `s` says also that everything else is
unchanged. -/

open Sys2Proof Sys2Proof.Machine

/-! ### Steps, reset and encodings -/

/-- A step executes the command at the front of the queue on the state with the queue's rest; the idle step on an empty queue is the
model's choice (log 1). -/
def Obligations.StepExecutesFront : Prop :=
  (∀ (c : Instr) (rest : List Instr) (s : State), s.pending = c :: rest → step s = exec c { s with pending := rest })
    ∧ ∀ s : State, s.pending = [] → step s = .next s

/-- POR puts every item at its reset value; that the queue of commands stays is the model's choice (log 1). The values are those of
R18, R44, R74, R129, R149, R160 and R178; those of the model's own fields (log 17) and of pattern memory (log 9) are not claimed. -/
def Obligations.PorGivesResetValues : Prop :=
  ∀ s : State, ∃ t, exec .por s = .next t ∧ t.pending = s.pending
    ∧ t.line.mode = .normal ∧ t.line.receiver = .hunting ∧ t.line.lastSeq = none ∧ t.line.latest = none ∧ t.line.waiting = []
    ∧ t.mgmt.queue = [] ∧ t.flags = 0 ∧ t.notice = 0
    ∧ (∀ n : PatternId, t.store.dir[n] = ⟨.empty, [], 0, 0, 0⟩) ∧ t.store.free = List.range 512 ∧ t.store.inFlight = none
    ∧ (∀ r : Requester, t.store.waiting[r] = none) ∧ t.store.lastGrant = mgmtRequester
    ∧ (∀ i : RingIndex, t.seq.ring[i] = none) ∧ t.seq.ci = 0 ∧ t.seq.lvi = 0 ∧ t.seq.ciStatus = .unstarted
    ∧ t.seq.prefetch = .none ∧ t.seq.state = .stopped ∧ t.seq.phase = .none ∧ t.seq.cause = .none
    ∧ t.seq.pausePending = false ∧ t.seq.current = none ∧ t.seq.dwell = 0 ∧ t.seq.serial = 0 ∧ t.seq.gapRem = 0 ∧ t.seq.tie = 0
    ∧ (∀ l : LaneId, t.lanes[l].phase = .idle ∧ t.lanes[l].role = .none ∧ t.lanes[l].pattern = none
        ∧ t.lanes[l].cur = .absent ∧ t.lanes[l].nxt = .absent ∧ t.lanes[l].x = 0 ∧ t.lanes[l].y = 0
        ∧ t.lanes[l].repeatIdx = 0 ∧ t.lanes[l].stitchIdx = 0 ∧ t.lanes[l].lastClass = .jump ∧ t.lanes[l].target = none
        ∧ t.lanes[l].lastMask = none ∧ t.lanes[l].ready = none ∧ t.lanes[l].buildWaiting = false
        ∧ t.lanes[l].noticeDue = false ∧ t.lanes[l].yFed = 0)
    ∧ (∀ k : Fin 32, t.needleSets[k] = BitVec.allOnes 48)
    ∧ (∀ b c : Fin 4, t.interlock[interlockIndex b c] = if b = 3 ∧ (c = 0 ∨ c = 2) then 2 else 0)
    ∧ (∀ k : Fin 8, t.asm.bands[k].ceiling = 4000 ∧ ∀ l : LaneId, t.asm.bands[k].dmax[l] = 40) ∧ t.asm.selection = none
    ∧ (∀ l : LaneId, t.asm.pos[l] = 0) ∧ t.asm.carryPending = false ∧ t.asm.history = []
    ∧ t.link.state = .off ∧ (∀ l : LaneId, t.link.slotLane[l] = none ∧ t.link.presence[l] = 0 ∧ t.link.limits[l] = ⟨0, 8191⟩)
    ∧ t.link.slotFeed = none ∧ t.link.awake = 0 ∧ t.link.missing = 0 ∧ t.link.wakeCount = 0 ∧ t.link.seen = 0
    ∧ (∀ k : SlotId, t.link.miss[k] = 0 ∧ t.link.lastState[k] = none) ∧ t.link.receiver = .hunting ∧ t.link.query = none
    ∧ t.link.marker = 15
    ∧ (∀ (l : LaneId) (n : NeedleId), t.needles.entry l n = ⟨.absent, 0⟩) ∧ t.needles.reservation = none ∧ t.needles.log = []
    ∧ t.tally = ⟨0, 0, 0, 0, true, .none, 0, 0, .notice⟩
    ∧ t.config.fmax = 300 ∧ t.config.fgap = 200 ∧ t.config.tIn = 3 ∧ t.config.tOut = 3 ∧ t.config.dwellLimit = 16
    ∧ (∀ l : LaneId, t.config.breakAction[l] = .hold)
    ∧ ∀ m : Fin 16, t.comp[m].sy = 4096 ∧ ∀ l : LaneId, t.comp[m].sx[l] = 4096

/-- The code and argument bytes of a request read back as that request, for every request the line can carry (Table 10-5). A STATUS frame
and a head frame hold, between start delimiter, type, length and CRC, their fields at the offsets of Tables 10-4 and 10-11, with the codes
of Table 10-2 (R111, R162, R164, R179, R180). The query item of a head frame with no query, 255, is the model's reading (log 13). -/
def Obligations.RequestEncodingReadsBack : Prop :=
  (∀ r : Request, r.wellFormed = true → parseRequest r.code r.args = .request r)
  ∧ (∀ t : Status, ∃ p : List Byte, (ReturnFrame.status t).bytes = [195, 129, 12] ++ p ++ halfBytes (crc ([129, 12] ++ p))
      ∧ p.length = 12
      ∧ let byte := fun i => p.getD i 0
        let flags := half (byte 7) (byte 8)
        half (byte 0) (byte 1) = t.seq
        ∧ (byte 2).toNat = (match t.kind with
            | none => 255
            | some k => [FrameKind.still, .wake, .dwell, .step, .advance].idxOf k)
        ∧ (byte 3).toNat = [SeqState.stopped, .running, .paused, .drained].idxOf t.state
        ∧ (byte 4).toNat = [Phase.none, .panel .gap, .panel .tieIn, .panel .body, .panel .tieOut, .panel .trimOut, .wait].idxOf t.phase
        ∧ (byte 5).toNat = [Cause.none, .request, .mark, .panelFlag, .break, .starved, .link, .repairFull, .descriptor].idxOf t.cause
        ∧ (byte 6).toNat = [LinkState.off, .waking, .active, .failed].idxOf t.link
        ∧ (∀ i : Fin 12, flags.getLsbD i.val = t.flags.getLsbD i.val) ∧ flags.getLsbD 12 = false ∧ flags.getLsbD 13 = false
        ∧ flags.getLsbD 14 = false ∧ flags.getLsbD 15 = t.attention
        ∧ (t.dwell ≤ 255 → (byte 9).toNat = t.dwell) ∧ (byte 10).toNat = t.ci.val ∧ (t.repairs ≤ 255 → (byte 11).toNat = t.repairs))
  ∧ ∀ f : HeadFrame, f.parts.length ≤ 4 → f.feed ≤ 65535 → (∀ a ∈ f.parts, a.pos ≤ 65535) →
      (∀ q, f.query = some q → q.item ≤ 255 ∧ q.marker ≤ 255) →
      let n := f.parts.length
      ∃ p : List Byte, f.bytes = [195, 16, BitVec.ofNat 8 (10 + 10 * n)] ++ p ++ halfBytes (crc ([16, BitVec.ofNat 8 (10 + 10 * n)] ++ p))
        ∧ p.length = 10 + 10 * n
        ∧ let byte := fun i => p.getD i 0
          half (byte 0) (byte 1) = f.seq
          ∧ (byte 2).toNat = [FrameKind.still, .wake, .dwell, .step, .advance].idxOf f.kind + (if f.kind = .wake then 128 else 0)
          ∧ (byte 3).toNat = n
          ∧ (∀ (j : Nat) (a : LanePart), f.parts[j]? = some a →
              (byte (4 + 10 * j)).toNat = a.slot.val
              ∧ (half (byte (5 + 10 * j)) (byte (6 + 10 * j))).toNat = a.pos
              ∧ (∀ m : NeedleId, (byte (7 + 10 * j + m.val / 8)).getLsbD (m.val % 8) = a.down.getLsbD m.val)
              ∧ (byte (13 + 10 * j)).toNat = if a.trim then 1 else 0)
          ∧ (byte (4 + 10 * n)).toNat = (f.feedSlot.map Fin.val).getD 255
          ∧ (half (byte (5 + 10 * n)) (byte (6 + 10 * n))).toNat = f.feed
          ∧ [(byte (7 + 10 * n)).toNat, (byte (8 + 10 * n)).toNat, (byte (9 + 10 * n)).toNat] = (match f.query with
              | none => [255, 255, 0]
              | some q => [q.slot.val, q.item, q.marker])

/-- A request code is UNKNOWN exactly when it is no request's code; a known code with argument bytes that are no request's is FORMAT; a good
request is BUSY when four wait, and is placed at the tail when another holds the head (R165). -/
def Obligations.MgmtFrameOnArrival : Prop :=
  ∀ (tag code : Byte) (args : List Byte) (s : State), s.receptive → args.length ≤ 253 →
    ((∀ r : Request, r.code ≠ code) →
      exec (.mgmtFrame tag code args) s = .next (produce (.reply tag code .unknown []) s))
    ∧ ((∃ r : Request, r.code = code) → (∀ r : Request, r.wellFormed = true → r.code = code → r.args ≠ args) →
      exec (.mgmtFrame tag code args) s = .next (produce (.reply tag code .format []) s))
    ∧ ∀ r : Request, r.wellFormed = true → r.code = code → r.args = args →
      (4 ≤ s.mgmt.queue.length →
        exec (.mgmtFrame tag code args) s = .next (produce (.reply tag code .busy []) s))
      ∧ (s.mgmt.queue.length < 4 → s.mgmt.active.isSome = true →
        exec (.mgmtFrame tag code args) s = .next { s with mgmt := { s.mgmt with queue := s.mgmt.queue ++ [⟨tag, r⟩] } })

/-! ### The stitch line -/

/-- Bytes without a start delimiter are discarded while hunting; a whole frame that fails the CRC, finds no room or has a bad type or length
is discarded with LINE_ERROR and nothing else, in NORMAL and LOOPBACK (R161, R180). The return frame being sent is finished and the oldest
waiting frame is started (R167); with none being sent nothing changes, which is the model's choice (log 6). -/
def Obligations.LineDiscardsAndReturnFrames : Prop :=
  ((∀ (bytes : List Byte) (s : State), startByte ∉ bytes → s.line.receiver = .hunting →
      exec (.discardedFrame bytes) s = .next s)
    ∧ ∀ (t len c1 c0 : Byte) (payload : List Byte) (s : State), payload.length = len.toNat → s.line.receiver = .hunting →
      s.line.mode ≠ .echo →
      (half c1 c0 ≠ crc (t :: len :: payload) ∨ 10 ≤ s.line.waiting.length ∨ ¬ (t = 1 ∨ t = 2) ∨ (t = 1 ∧ len ≠ 5)
        ∨ (t = 2 ∧ len.toNat < 2)) →
      exec (.discardedFrame (startByte :: t :: len :: (payload ++ [c1, c0]))) s
        = .next { s with flags := s.flags ||| Flag.lineError.mask })
  ∧ (∀ s : State,
      (∀ f g rest, s.line.sending = some f → s.line.waiting = g :: rest →
        exec .returnFrameSent s = .next { s with line := { s.line with sending := some g, waiting := rest } })
      ∧ (∀ f, s.line.sending = some f → s.line.waiting = [] →
        exec .returnFrameSent s = .next { s with line := { s.line with sending := none } })
      ∧ (s.line.sending = none → exec .returnFrameSent s = .next s))

/-- A CYCLE frame that repeats the last accepted sequence or is older is discarded with LINE_ERROR and nothing else; any other
is accepted, its sequence, run bit and speed are recorded, a speed above 4000 taken as 4000, and LINE_ERROR is set where the
distance ahead is above 1, or was set (R163, R181). The band recorded at the send point is the first row whose ceiling reaches
the speed, else row 7 (R94, R96). -/
def Obligations.CycleSequenceWindowAndBand : Prop :=
  (∀ (seq : Half) (run : Byte) (speed : Half) (s : State), s.attentive → s.reports = Reports.none →
      (∀ last, s.line.lastSeq = some last → (seq - last = 0 ∨ 32768 ≤ (seq - last).toNat) →
        exec (.cycleFrame seq run speed []) s = .next { s with flags := s.flags ||| Flag.lineError.mask })
      ∧ ((s.line.lastSeq = none ∨ ∃ last, s.line.lastSeq = some last ∧ 1 ≤ (seq - last).toNat ∧ (seq - last).toNat ≤ 32767) →
        ∃ t, exec (.cycleFrame seq run speed []) s = .next t ∧ t.line.lastSeq = some seq
          ∧ t.line.latest = some ⟨run.getLsbD 0, min speed.toNat 4000⟩
          ∧ (t.hasFlag .lineError = true ↔
              s.hasFlag .lineError = true ∨ ∃ last, s.line.lastSeq = some last ∧ 2 ≤ (seq - last).toNat)))
  ∧ (∀ (seq : Half) (run : Byte) (speed : Half) (s : State), s.cycleReady seq →
      ∃ t k, exec (.cycleFrame seq run speed []) s = .next t ∧ t.asm.selection = some ⟨min speed.toNat 4000, k⟩
        ∧ t.asm.bands = s.asm.bands
        ∧ ((min speed.toNat 4000 ≤ s.asm.bands[k].ceiling ∧ ∀ j : Fin 8, j < k → s.asm.bands[j].ceiling < min speed.toNat 4000)
            ∨ (k = 7 ∧ ∀ j : Fin 8, s.asm.bands[j].ceiling < min speed.toNat 4000)))

/-! ### Send points -/

/-- With the link OFF or FAILED in NORMAL mode a send point sends no head frame: it records the band, writes no history, moves no bar, keeps
the dwell run, and is answered by a STATUS frame with no kind (R104, R164). In WAKING with a wake count below 32 a send point sends a WAKE
frame, which holds every bar, lifts every needle and feeds nothing, raises the wake count by one and sets the dwell run to 0 (R104, R120).
That the phase notices in flight stay in flight (log 3), and that driving the frame puts the head link receiver back to hunting (log 20),
are the model's. -/
def Obligations.LinkDownAndWakingFrames : Prop :=
  (∀ (seq : Half) (run : Byte) (speed : Half) (s : State), s.cycleReady seq →
      (s.link.state = .off ∨ s.link.state = .failed) →
      exec (.cycleFrame seq run speed []) s = .next ((s.opened seq run speed).withStatus seq none))
  ∧ (∀ (seq : Half) (run : Byte) (speed : Half) (s : State), s.cycleReady seq → s.link.state = .waking → s.link.wakeCount < 32 →
      s.link.query = none →
      let f : HeadFrame := ⟨seq, .wake, s.heldParts, s.link.slotFeed, 0, none⟩
      let t := (s.opened seq run speed).framed f s.asm.pos
      exec (.cycleFrame seq run speed []) s
        = .next (State.withStatus seq (some .wake)
            { t with link := { t.link with wakeCount := s.link.wakeCount + 1 }, seq := { t.seq with dwell := 0 } }))

/-- In WAKING with a wake count of 32 the send point puts the link in FAILED, names the mapped slots not awake, sets LINK_FAULT and sends no
frame (R120). At a send point in ACTIVE every mapped slot without a READY-seen mark has its miss count raised; where a count reaches 3 the
link is FAILED with the slots that reached it, LINK_FAULT is set, a RUNNING Sequencer is PAUSED with cause LINK, and no frame is sent
(R123). That the phase notices in flight stay in flight (log 3), and that the rows WAKE_LIMIT and MODULE_LOSS are that same CYCLE frame,
with its operands and its STATUS frame (log 5), are the model's choices. -/
def Obligations.LinkFailures : Prop :=
  (∀ (seq : Half) (run : Byte) (speed : Half) (s : State), s.cycleReady seq → s.link.state = .waking → s.link.wakeCount = 32 →
      let t := State.withStatus seq none
        { s.opened seq run speed with
          link := { s.link with state := .failed, missing := s.link.mapped &&& ~~~s.link.awake }
          flags := s.flags ||| Flag.linkFault.mask }
      exec (.cycleFrame seq run speed []) s = .next t ∧ exec (.wakeLimit seq run speed []) s = .next t)
  ∧ (∀ (seq : Half) (run : Byte) (speed : Half) (s : State), s.cycleReady seq → s.link.state = .active → s.link.query = none →
      (∀ k : SlotId, s.link.miss[k] < 3) →
      (∃ k : SlotId, inSlots s.link.mapped k = true ∧ inSlots s.link.seen k = false ∧ s.link.miss[k] = 2) →
      ∃ t, exec (.cycleFrame seq run speed []) s = .next t ∧ exec (.moduleLoss seq run speed []) s = .next t
        ∧ t.link.state = .failed ∧ t.link.seen = 0 ∧ t.hasFlag .linkFault = true
        ∧ (∀ k : SlotId, t.link.miss[k]
            = if inSlots s.link.mapped k && !inSlots s.link.seen k then s.link.miss[k] + 1 else s.link.miss[k])
        ∧ (∀ k : SlotId, inSlots t.link.missing k = true ↔ t.link.miss[k] = 3)
        ∧ t.seq = (if s.seq.state = .running then { s.seq with state := .paused, cause := .link } else s.seq)
        ∧ t.link.out = s.link.out ∧ t.asm.pos = s.asm.pos ∧ t.asm.history = s.asm.history ∧ t.lanes = s.lanes
        ∧ t.store = s.store ∧ t.needles = s.needles ∧ t.tally = s.tally ∧ t.config = s.config ∧ t.mgmt = s.mgmt)

/-- With the link up and the run bit clear, the Sequencer not RUNNING or position carry pending, a send point sends STILL: every bar held at
its recorded position, every needle up, no feed, the dwell run 0, position carry pending cleared (R104, R105, R107, R109). That the phase
notices in flight stay in flight (log 3), and that driving the frame puts the head link receiver back to hunting (log 20), are the
model's. -/
def Obligations.StillFrameHoldsBars : Prop :=
  ∀ (seq : Half) (run : Byte) (speed : Half) (s : State), s.cycleReady seq → s.linkUp →
    (run.getLsbD 0 = false ∨ s.seq.state ≠ .running ∨ s.asm.carryPending = true) →
    let f : HeadFrame := ⟨seq, .still, s.heldParts, s.link.slotFeed, 0, none⟩
    let t := (s.opened seq run speed).framed f s.asm.pos
    exec (.cycleFrame seq run speed []) s
      = .next (State.withStatus seq (some .still)
          { t with link := { t.link with seen := 0 }, seq := { t.seq with dwell := 0 } })

/-- While RUNNING, in WAIT or with some fitted lane offering no record, as a lane does not that waits for its phase notice, a send point
sends DWELL and raises the dwell run; where that reaches a dwell limit above 0, STARVED is set and the line pauses with cause STARVED (R40,
R41, R57, R104). That the phase notices in flight stay in flight (log 3), that the row DWELL_LIMIT is that same CYCLE frame with its
operands (log 5), and that driving the frame puts the head link receiver back to hunting (log 20) are the model's. -/
def Obligations.DwellFrameCounts : Prop :=
  ∀ (seq : Half) (run : Byte) (speed : Half) (s : State), s.cycleReady seq → s.linkUp → run.getLsbD 0 = true →
    s.seq.state = .running → s.asm.carryPending = false → (s.seq.phase = .wait ∨ ¬ s.recordsOffered) →
    let f : HeadFrame := ⟨seq, .dwell, s.heldParts, s.link.slotFeed, 0, none⟩
    let d := if s.seq.dwell < 255 then s.seq.dwell + 1 else s.seq.dwell
    let t := (s.opened seq run speed).framed f s.asm.pos
    let u := { t with link := { t.link with seen := 0 }, seq := { t.seq with dwell := d } }
    let v := { u with seq := { u.seq with state := .paused, cause := .starved }, flags := u.flags ||| Flag.starved.mask }
    ((s.config.dwellLimit = 0 ∨ d < s.config.dwellLimit) →
      exec (.cycleFrame seq run speed []) s = .next (u.withStatus seq (some .dwell)))
    ∧ (s.config.dwellLimit ≠ 0 ∧ s.config.dwellLimit ≤ d →
      exec (.cycleFrame seq run speed []) s = .next (v.withStatus seq (some .dwell))
        ∧ exec (.dwellLimit seq run speed []) s = .next (v.withStatus seq (some .dwell)))

/-- With every record offered and some record unsettled, a send point sends STEP: bars move by the lesser of travel and Dmax, every record
that owes rests pays one, no needle goes down, nothing is fed or consumed (R99, R104, R106, R107). That the phase notices in flight stay in
flight (log 3), and that driving the frame puts the head link receiver back to hunting (log 20), are the model's. -/
def Obligations.StepFramePaysRests : Prop :=
  ∀ (seq : Half) (run : Byte) (speed : Half) (s : State), s.stitching seq run →
    (∃ l r, s.fitted l = true ∧ s.lanes[l].ready = some r ∧ ¬ r.settled s.asm.pos[l] (s.dmaxAt speed l)) →
    let pos := s.barsMoved speed
    let f : HeadFrame := ⟨seq, .step, allLanes.filterMap (fun l => s.link.slotLane[l].map (fun k => ⟨k, pos[l], 0, false⟩)),
      s.link.slotFeed, 0, none⟩
    let t := (s.opened seq run speed).framed f pos
    exec (.cycleFrame seq run speed []) s
      = .next (State.withStatus seq (some .step)
          { t with
            link := { t.link with seen := 0 }
            seq := { t.seq with dwell := 0 }
            lanes := Vector.ofFn (fun l => if s.fitted l then
                { s.lanes[l] with ready := s.lanes[l].ready.map (fun r => { r with rests := r.rests - 1 }) }
              else s.lanes[l]) })

/-- With every record offered and settled, a send point sends ADVANCE: bars move, exactly the ENGAGED needles of the base mask of a STITCH
or TACK record go down, a TRIM record and no other trims, the feed is that of the phase, and every fitted lane, the Sequencer and the Tally
Unit have their reports in flight (R104, R106 to R110, Table 6-2). That the reports of the order operand, and those alone, are taken one
after another before the STATUS frame is built, as section 11.2 shows them (log 2), that the phase notices in flight stay in flight (log 3),
and that driving the frame puts the head link receiver back to hunting (log 20) are the model's. -/
def Obligations.AdvanceFrameCarriesOutRecords : Prop :=
  ∀ (seq : Half) (run : Byte) (speed : Half) (order : List Report) (s : State), s.stitching seq run →
    (∀ l r, s.fitted l = true → s.lanes[l].ready = some r → r.settled s.asm.pos[l] (s.dmaxAt speed l)) →
    let pos := s.barsMoved speed
    let record := s.feedLaneContext.bind Lane.ready
    let gap := if s.seq.phase = .panel .gap then min s.config.fgap s.seq.gapRem else 0
    let feed := if s.seq.phase = .panel .gap then gap
      else if s.seq.phase = .panel .body then (record.bind Ready.feed).getD 0 else 0
    ∃ down : LaneId → NeedleSet,
      (∀ (l : LaneId) (r : Ready) (n : NeedleId), s.fitted l = true → s.lanes[l].ready = some r →
        ((down l).getLsbD n.val = true ↔
          (r.cls = .stitch ∨ r.cls = .tack) ∧ r.mask.getLsbD n.val = true ∧ (s.needles.entry l n).state = .engaged))
      ∧ let f : HeadFrame := ⟨seq, .advance,
          allLanes.filterMap (fun l => s.link.slotLane[l].map (fun k =>
            ⟨k, pos[l], down l, decide (s.lanes[l].ready.map Ready.cls = some .trim)⟩)),
          s.link.slotFeed, feed, none⟩
        let t := (s.opened seq run speed).framed f pos
        let sent := { t with
          link := { t.link with seen := 0 }
          seq := { t.seq with dwell := 0 }
          reports :=
            { consumption := Vector.ofFn (fun l => if s.fitted l then .due else .none)
              notices := s.reports.notices
              sequencer := some ⟨gap, if s.seq.phase = .panel .body then (record.map Ready.repeatEnd).getD false else false⟩
              feeds := [feed] } }
        ∃ u, State.runs (order.map takenBy) sent u
          ∧ exec (.cycleFrame seq run speed order) s = .next (u.withStatus seq (some .advance))

/-- A head frame sent at a CYCLE frame lowers a needle only if it is ADVANCE, for a lane whose slot the part names, and only if the needle is
ENGAGED; and it feeds or trims only if it is ADVANCE (R107, R108, R109). -/
def Obligations.NeedlesDownOnlyWhenEngaged : Prop :=
  ∀ (seq : Half) (run : Byte) (speed : Half) (order : List Report) (s t : State) (f : HeadFrame), s.receptive →
    exec (.cycleFrame seq run speed order) s = .next t → t.link.out = some f → t.link.out ≠ s.link.out →
    (f.kind ≠ .advance → f.feed = 0 ∧ ∀ p ∈ f.parts, p.down = 0 ∧ p.trim = false)
    ∧ ∀ p ∈ f.parts, ∀ n : NeedleId, p.down.getLsbD n.val = true →
        ∃ l : LaneId, s.link.slotLane[l] = some p.slot ∧ (s.needles.entry l n).state = .engaged

/-- The fourth head frame after the one the query rode in ends the query: QUERY_TIMEOUT is set and the request is answered TIMEOUT with data
65535, here at a STILL frame (R125). Requests that wait behind it are taken next, in the order they arrived, after any send point that ends
the query, and wait on after any other (R166). That the row QUERY_TIMEOUT is that same CYCLE frame with its operands (log 5), that the
REPLY goes out before the STATUS frame and the waiting requests execute after it (log 18), and that driving the frame puts the head link
receiver back to hunting (log 20) are the model's. -/
def Obligations.QueryEndsAtFourthFrame : Prop :=
  (∀ (seq : Half) (run : Byte) (speed : Half) (s : State) (q : Query) (e : Entry), s.receptive → s.line.mode = .normal →
      s.reports = Reports.none → (s.line.lastSeq = none ∨ s.line.lastSeq = some (seq - 1)) → s.link.state = .active →
      s.link.mapped &&& ~~~s.link.seen = 0 → (∀ k : SlotId, s.link.miss[k] < 3) → s.seq.state ≠ .running →
      s.link.query = some q → q.sent = some 3 → s.mgmt = ⟨[e], some .query⟩ →
      let f : HeadFrame := ⟨seq, .still, s.heldParts, s.link.slotFeed, 0, none⟩
      let t := (s.opened seq run speed).framed f s.asm.pos
      let u := State.withStatus seq (some .still)
        (produce (.reply e.tag e.req.code .timeout [255, 255])
          { t with
            link := { t.link with seen := 0, query := none }
            seq := { t.seq with dwell := 0 }
            flags := s.flags ||| Flag.queryTimeout.mask
            mgmt := ⟨[], none⟩ })
      exec (.cycleFrame seq run speed []) s = .next u ∧ exec (.queryTimeout seq run speed []) s = .next u)
  ∧ ∀ (seq : Half) (run : Byte) (speed : Half) (order : List Report) (s : State), s.receptive →
      s.queueGoesOn (.cycleFrame seq run speed order)

/-- In LOOPBACK nothing is driven on the head link, a frame counts as sent, and every mapped slot gives a synthetic READY return: a wake
reaches ACTIVE at its first send point with a wake count of 1, and a query that rides in the frame is answered DONE with data 0 (R120,
R122, R126); that its REPLY goes out before the STATUS frame is the model's choice (log 18). In ECHO a CYCLE frame is returned
unchanged; where its sequence is accepted the sequence, the run bit, the speed and the band are recorded, where it repeats the last one
LINE_ERROR is set, and no head frame and no STATUS frame is sent (R96, R104, R127, R163, R175). -/
def Obligations.LoopbackAndEchoSendPoints : Prop :=
  (∀ (seq : Half) (run : Byte) (speed : Half) (s : State), s.receptive → s.line.mode = .loopback → s.reports = Reports.none →
      (s.line.lastSeq = none ∨ s.line.lastSeq = some (seq - 1)) →
      let entry := fun k : FrameKind => (⟨seq, k, s.seq.serial, s.seq.phase, s.repeatIdx, s.stitchIdx, s.yFed, s.asm.pos⟩ : HistoryEntry)
      (s.mgmt = ⟨[], none⟩ → s.link.state = .waking → s.link.wakeCount = 0 → s.link.awake = 0 → s.link.mapped ≠ 0 →
          s.link.query = none →
        ∃ t, exec (.cycleFrame seq run speed []) s = .next t
          ∧ t = State.withStatus seq (some .wake) { t with line := (s.opened seq run speed).line }
          ∧ t.link.state = .active ∧ t.link.wakeCount = 1 ∧ t.link.seen = BitVec.allOnes 6
          ∧ (∀ k : SlotId, t.link.miss[k] = 0 ∧ inSlots t.link.awake k = inSlots s.link.mapped k
              ∧ t.link.lastState[k] = if inSlots s.link.mapped k then some .ready else s.link.lastState[k])
          ∧ t.link.out = s.link.out ∧ t.link.receiver = s.link.receiver ∧ t.asm.history = (entry .wake :: s.asm.history).take 8
          ∧ t.asm.pos = s.asm.pos ∧ t.asm.carryPending = false ∧ t.seq = { s.seq with dwell := 0 } ∧ t.flags = s.flags
          ∧ t.lanes = s.lanes ∧ t.store = s.store ∧ t.needles = s.needles ∧ t.tally = s.tally ∧ t.reports = s.reports)
      ∧ ∀ (q : Query) (e : Entry), s.mgmt = ⟨[e], some .query⟩ → s.link.state = .active → s.link.mapped &&& ~~~s.link.seen = 0 →
          (∀ k : SlotId, s.link.miss[k] < 3) → s.seq.state ≠ .running → s.link.query = some q → q.sent = none →
          inSlots s.link.mapped q.slot = true →
        ∃ t, exec (.cycleFrame seq run speed []) s = .next t
          ∧ t = State.withStatus seq (some .still)
              (produce (.reply e.tag e.req.code .done [0, 0]) { t with line := (s.opened seq run speed).line })
          ∧ t.mgmt = ⟨[], none⟩ ∧ t.link.query = none ∧ t.link.state = .active
          ∧ (∀ k : SlotId, inSlots t.link.seen k = inSlots s.link.mapped k
              ∧ t.link.miss[k] = (if inSlots s.link.mapped k then 0 else s.link.miss[k])
              ∧ t.link.lastState[k] = if inSlots s.link.mapped k then some .ready else s.link.lastState[k])
          ∧ t.link.out = s.link.out ∧ t.link.receiver = s.link.receiver ∧ t.asm.history = (entry .still :: s.asm.history).take 8
          ∧ t.asm.pos = s.asm.pos ∧ t.asm.carryPending = false ∧ t.seq = { s.seq with dwell := 0 } ∧ t.flags = s.flags
          ∧ t.lanes = s.lanes ∧ t.store = s.store ∧ t.needles = s.needles ∧ t.tally = s.tally ∧ t.reports = s.reports)
  ∧ ∀ (seq : Half) (run : Byte) (speed : Half) (s : State), s.line.mode = .echo → s.line.receiver = .hunting →
      s.line.waiting.length < 10 → s.reports = Reports.none → s.mgmt = ⟨[], none⟩ → s.link.state = .off →
      let echo := produce (.echo (frameBytes typeCycle (cyclePayload seq run speed)))
      ((s.line.lastSeq = none ∨ s.line.lastSeq = some (seq - 1)) →
        exec (.cycleFrame seq run speed []) s = .next (echo (s.opened seq run speed)))
      ∧ (s.line.lastSeq = some seq →
        exec (.cycleFrame seq run speed []) s = .next (echo { s with flags := s.flags ||| Flag.lineError.mask }))

/-- An outstanding query rides in the next head frame sent and in no other, and every frame after it counts, here STILL frames (R124, R125).
An answer before the query has ridden, from another slot or with another marker is ignored, and the rest of its return is acted on
(R122, R125). A send point at which a module is lost ends the query LINK_DOWN, whether it has ridden or not (R123, R125). That the REPLY
goes out before the STATUS frame (log 18), and that driving a frame puts the head link receiver back to hunting (log 20), are the model's. -/
def Obligations.QueryRidesOnceAndEnds : Prop :=
  (∀ (seq : Half) (run : Byte) (speed : Half) (s : State) (q : Query), s.receptive → s.line.mode = .normal →
      s.reports = Reports.none → (s.line.lastSeq = none ∨ s.line.lastSeq = some (seq - 1)) → s.mgmt.active = some .query →
      s.link.state = .active → (∀ k : SlotId, s.link.miss[k] < 3) → s.link.query = some q →
      (s.link.mapped &&& ~~~s.link.seen = 0 → s.seq.state ≠ .running → (∀ k, q.sent = some k → k < 3) →
        let f : HeadFrame := ⟨seq, .still, s.heldParts, s.link.slotFeed, 0,
          if q.sent = none then some ⟨q.slot, q.item, q.marker⟩ else none⟩
        let sent := match q.sent with
          | none => 0
          | some k => k + 1
        let t := (s.opened seq run speed).framed f s.asm.pos
        exec (.cycleFrame seq run speed []) s
          = .next (State.withStatus seq (some .still)
              { t with
                link := { t.link with seen := 0, query := some { q with sent := some sent } }
                seq := { t.seq with dwell := 0 } }))
      ∧ ∀ e : Entry, s.mgmt = ⟨[e], some .query⟩ →
        (∃ k : SlotId, inSlots s.link.mapped k = true ∧ inSlots s.link.seen k = false ∧ s.link.miss[k] = 2) →
        let miss : Vector Nat 6 := Vector.ofFn (fun k : SlotId =>
          if inSlots s.link.mapped k && !inSlots s.link.seen k then s.link.miss[k] + 1 else s.link.miss[k])
        ∃ missing : SlotSet, (∀ k : SlotId, inSlots missing k = true ↔ miss[k] = 3)
          ∧ exec (.cycleFrame seq run speed []) s
            = .next (State.withStatus seq none
                (produce (.reply e.tag e.req.code .linkDown [])
                  { s.opened seq run speed with
                    link := { s.link with state := .failed, miss := miss, seen := 0, missing := missing, query := none }
                    flags := s.flags ||| Flag.linkFault.mask
                    seq := if s.seq.state = .running then { s.seq with state := .paused, cause := .link } else s.seq
                    mgmt := ⟨[], none⟩ })))
  ∧ ∀ (r : ModuleReturn) (s : State) (q : Query) (m : Nat) (d : Half), s.link.receiver = .hunting → s.line.mode ≠ .loopback →
      s.link.state ≠ .waking → inSlots s.link.mapped r.slot = true → r.missing = 0 → r.answer = some (m, d) → 1 ≤ m → m ≤ 15 →
      s.link.query = some q → (q.sent = none ∨ q.slot ≠ r.slot ∨ m ≠ q.marker) → s.mgmt.active = some .query →
      exec (.moduleReturn r.bytes) s = .next
        { s with link := { s.link with
          miss := s.link.miss.set r.slot 0
          lastState := s.link.lastState.set r.slot (some r.state)
          seen := if r.state = .ready then s.link.seen ||| slotBit r.slot else s.link.seen } }

/-! ### Patterns -/

/-- OPEN_PATTERN makes its checks in order and gives the first failing result; otherwise the pattern takes the lowest free
pages, LOADING and empty (R5, R10). CLOSE_PATTERN and FREE_PATTERN give their results and effects; here no prefetch is BLOCKED while
RUNNING, so no retry follows a CLOSE_PATTERN (R14, R15). -/
def Obligations.PatternsOpenCloseAndFree : Prop :=
  (∀ (tag pages : Byte) (n : PatternId) (s : State), s.attentive →
      let b : Byte := BitVec.ofNat 8 n.val
      let p := pages.toNat
      exec (.openPattern tag b pages) s = .next (
        if s.store.dir[n].state ≠ .empty then answered tag (.openPattern b pages) .state [] s
        else if p < 1 ∨ 64 < p then answered tag (.openPattern b pages) .range [] s
        else if s.store.free.length < p then answered tag (.openPattern b pages) .noSpace [] s
        else answered tag (.openPattern b pages) .done [pages]
          { s with store := { s.store with
              dir := s.store.dir.set n ⟨.loading, s.store.free.take p, 0, 0, s.store.dir[n].pins⟩
              free := s.store.free.drop p } }))
  ∧ (∀ (tag : Byte) (n : PatternId) (s : State), s.attentive →
      let b : Byte := BitVec.ofNat 8 n.val
      let e := s.store.dir[n]
      ((s.seq.state ≠ .running ∨ ∀ t, s.seq.prefetch ≠ .blocked t) →
        exec (.closePattern tag b) s = .next (
          if e.state ≠ .loading then answered tag (.closePattern b) .state [] s
          else if e.count = 0 then answered tag (.closePattern b) .empty [] s
          else answered tag (.closePattern b) .done []
            { s with store := { s.store with dir := s.store.dir.set n { e with state := .ready } } }))
      ∧ exec (.freePattern tag b) s = .next (
          if e.state = .empty then answered tag (.freePattern b) .empty [] s
          else if 0 < e.pins then answered tag (.freePattern b) .inUse [] s
          else answered tag (.freePattern b) .done []
            { s with store := { s.store with
                dir := s.store.dir.set n ⟨.empty, [], 0, 0, e.pins⟩
                free := returnPages e.pages s.store.free } }))

/-- APPEND_SEGMENTS makes its checks in order; an accepted one holds the head of the queue with its records normalised and, with the port
free, has its first access in flight at the location of the segment index `first` (R4, R7, R11, R13). A record is normalised: the count is
brought into 1 to 1024, a dx of −128 becomes −127, dx and dy of TACK and TRIM become 0, kind and needle mode are kept as given, 255 for ALL
and k for SET k (Table 10-6), and the clamp mark says that a count or, outside TACK and TRIM, a dx was changed (R12); the mark of a dx of
−128 in TACK or TRIM is the model's reading (log 33). -/
def Obligations.AppendBeginsFirstWrite : Prop :=
  (∀ (tag : Byte) (n : PatternId) (first : Half) (records : List SegmentWire) (s : State), s.attentive →
      1 ≤ records.length → records.length ≤ 8 → s.store.inFlight = none → (∀ r : Requester, s.store.waiting[r] = none) →
      let b : Byte := BitVec.ofNat 8 n.val
      let e := s.store.dir[n]
      exec (.appendSegments tag b first records) s = .next (
        if e.state ≠ .loading then answered tag (.appendSegments b first records) .state [] s
        else if first.toNat ≠ e.count then answered tag (.appendSegments b first records) .range [] s
        else if 32 * e.pages.length < first.toNat + records.length then
          answered tag (.appendSegments b first records) .noSpace [] s
        else if ∃ w ∈ records, 4 ≤ w.kind.toNat % 8 ∨ (32 ≤ w.mode.toNat ∧ w.mode ≠ 255) then
          answered tag (.appendSegments b first records) .range [] s
        else
          { s with
            mgmt := ⟨[⟨tag, .appendSegments b first records⟩],
              some (.append n [] (records.map (fun w => (normalise w).1)) (records.any (fun w => (normalise w).2)))⟩
            store := { s.store with
              inFlight := some ⟨mgmtRequester, e.pages.getD (first.toNat / 32) 0 * 32 + first.toNat % 32, false⟩
              lastGrant := mgmtRequester } }))
  ∧ ∀ (w : SegmentWire) (kind : SegKind), segKindOf (w.kind.toNat % 8) = some kind →
      let fixed := kind = .tack ∨ kind = .trim
      let g := (normalise w).1
      g.kind = kind ∧ (w.mode = 255 → g.mode = .all) ∧ (∀ k : Fin 32, w.mode.toNat = k.val → g.mode = .set k)
      ∧ g.count = (if w.count.toNat = 0 then 1 else if 1024 < w.count.toNat then 1024 else w.count.toNat)
      ∧ g.dx = (if fixed then 0 else if w.dx.toInt = -128 then -127 else w.dx.toInt)
      ∧ g.dy = (if fixed then 0 else w.dy.toNat)
      ∧ ((normalise w).2 = true ↔ w.count.toNat = 0 ∨ 1024 < w.count.toNat ∨ (¬ fixed ∧ w.dx.toInt = -128))

/-- The completion of a write of an APPEND_SEGMENTS writes the record at the location of its access and leaves every other location as it
was. The last one raises the count and max_dy together, answers with the new count, and frees the port, which grants the next requester;
any other keeps the request at the head and requests the access of the next segment, at the location of its index. The completion of a
read that is not the last gathers the record read and requests the next index the same way (R4, R7, R13, R17). Requests that wait behind
the one at the head are taken next, in the order they arrived, once a completion ends it, and wait on until then (R166). That the port
grants before the next access is requested is the model's choice (log 11). -/
def Obligations.ManagementAccessesGoOn : Prop :=
  ∀ (s : State) (n : PatternId) (addr : Nat) (cancelled : Bool), s.store.inFlight = some ⟨mgmtRequester, addr, cancelled⟩ →
    let e := s.store.dir[n]
    let port := { s.store with inFlight := none }.grant
    let next := fun (j : Nat) (st : PatternStore) => st.request mgmtRequester (e.pages.getD (j / 32) 0 * 32 + j % 32)
    (∀ (tag : Byte) (r : Request) (written : List Segment) (g : Segment) (clamped : Bool), Memory.wf s →
      s.mgmt = ⟨[⟨tag, r⟩], some (.append n written [g] clamped)⟩ →
      ∃ mem, (∀ a, memRead mem a = if a = addr then g else memRead s.store.mem a)
        ∧ exec .managementAccessCompletion s = .next (
            answered tag r (if clamped then .clamped else .done) (be2 (e.count + written.length + 1))
              { s with
                mgmt := ⟨[], none⟩
                store := { port with
                  mem := mem
                  dir := s.store.dir.set n { e with
                    count := e.count + written.length + 1, maxDy := max e.maxDy (largestDy (written ++ [g])) } } }))
    ∧ (∀ (written rest : List Segment) (g h : Segment) (clamped : Bool), Memory.wf s →
      s.mgmt.active = some (.append n written (g :: h :: rest) clamped) →
      ∃ mem, (∀ a, memRead mem a = if a = addr then g else memRead s.store.mem a)
        ∧ exec .managementAccessCompletion s = .next
            { s with
              mgmt := { s.mgmt with active := some (.append n (written ++ [g]) (h :: rest) clamped) }
              store := next (e.count + written.length + 1) { port with mem := mem } })
    ∧ (∀ (i left : Nat) (got : List Segment) (short : Bool), 2 ≤ left → s.mgmt.active = some (.read n i left got short) →
      exec .managementAccessCompletion s = .next
        { s with
          mgmt := { s.mgmt with active := some (.read n (i + 1) (left - 1) (got ++ [memRead s.store.mem addr]) short) }
          store := next (i + 1) port })
    ∧ s.queueGoesOn .managementAccessCompletion

/-- READ_SEGMENTS makes its checks in order; an accepted one holds the head of the queue with as many records to read as the count allows
and, with the port free, has its first access in flight; the completion of its last access answers with the records in index order, then
their number, DONE or CLAMPED, and changes no record (R4, R7, R17; the layout of the data is the model's reading, log 15). -/
def Obligations.ReadSegmentsReadsInOrder : Prop :=
  (∀ (tag number : Byte) (n : PatternId) (first : Half) (s : State), s.attentive → s.store.inFlight = none →
    (∀ r : Requester, s.store.waiting[r] = none) →
    let b : Byte := BitVec.ofNat 8 n.val
    let e := s.store.dir[n]
    let left := min number.toNat (e.count - first.toNat)
    exec (.readSegments tag b first number) s = .next (
      if e.state = .empty then answered tag (.readSegments b first number) .empty [] s
      else if number.toNat < 1 ∨ 8 < number.toNat then answered tag (.readSegments b first number) .range [] s
      else if e.count ≤ first.toNat then answered tag (.readSegments b first number) .range [] s
      else
        { s with
          mgmt := ⟨[⟨tag, .readSegments b first number⟩],
            some (.read n first.toNat left [] (decide (left < number.toNat)))⟩
          store := { s.store with
            inFlight := some ⟨mgmtRequester, e.pages.getD (first.toNat / 32) 0 * 32 + first.toNat % 32, false⟩
            lastGrant := mgmtRequester } }))
  ∧ ∀ (s : State) (tag : Byte) (r : Request) (n : PatternId) (next : Nat) (got : List Segment) (short : Bool) (addr : Nat)
      (cancelled : Bool), s.mgmt = ⟨[⟨tag, r⟩], some (.read n next 1 got short)⟩ →
      s.store.inFlight = some ⟨mgmtRequester, addr, cancelled⟩ → (∀ q : Requester, s.store.waiting[q] = none) →
      exec .managementAccessCompletion s = .next (
        answered tag r (if short then .clamped else .done)
          ((got ++ [memRead s.store.mem addr]).flatMap storedBytes ++ be1 (got.length + 1))
          { s with store := { s.store with inFlight := none }, mgmt := ⟨[], none⟩ })

/-- Requests that only report are answered DONE with the items of their tables and change nothing else (R16, R21, R43, R72, R92, R98, R114,
R148, R155, R170, R172, R173). The model's own are: that READ_TALLY finds every feed report in flight counted (log 3), that repeat index,
stitch index and Y_fed read 0 in GET_QUEUE until the feed lane has taken the notice that hands it the panel (log 35), and that the reserved
bits of the flag byte of READ_PANEL and bits 12 to 15 of a set of flags are 0 (log 39). -/
def Obligations.ReportsChangeNothing : Prop :=
  ∀ (tag : Byte) (s : State), s.attentive →
    (∀ n : PatternId, let b : Byte := BitVec.ofNat 8 n.val
      let e := s.store.dir[n]
      exec (.getPattern tag b) s = .next (answered tag (.getPattern b) .done
        ([e.state.code] ++ be2 e.count ++ be1 e.maxDy ++ be1 e.pins ++ be2 s.store.free.length ++ be1 e.pages.length
          ++ e.pages.flatMap be2) s))
    ∧ (∀ i : RingIndex, let b : Byte := BitVec.ofNat 8 i.val
      exec (.readPanel tag b) s = .next (answered tag (.readPanel b) .done
        (match s.seq.ring[i] with
          | none => List.replicate 20 0
          | some d => 1 :: descriptorBytes d) s))
    ∧ exec (.getQueue tag) s = .next (answered tag .getQueue .done
        (be1 s.seq.ci.val ++ opt1 (s.seq.prefetch.pi.map Fin.val) ++ be1 s.seq.lvi.val
          ++ [s.seq.state.code, s.seq.phase.code, s.seq.cause.code, s.seq.ciStatus.code, s.seq.prefetch.code]
          ++ opt1 (s.seq.prefetch.target.map Fin.val) ++ boolBytes s.seq.pausePending ++ halfBytes s.seq.serial
          ++ be2 s.repeatIdx ++ be3 s.stitchIdx ++ be4 s.yFed ++ be2 s.seq.gapRem) s)
    ∧ (∀ k : Fin 32, let b : Byte := BitVec.ofNat 8 k.val
      exec (.getNeedleSet tag b) s = .next (answered tag (.getNeedleSet b) .done (b :: setBytes s.needleSets[k]) s))
    ∧ exec (.getInterlock tag) s = .next (answered tag .getInterlock .done (s.interlock.toList.flatMap be1) s)
    ∧ exec (.getBand tag) s = .next (answered tag .getBand .done
        (s.asm.bands.toList.flatMap Band.bytes ++ selectionBytes s.asm.selection) s)
    ∧ exec (.readHistory tag) s = .next (answered tag .readHistory .done
        (be1 s.asm.history.length ++ s.asm.history.flatMap HistoryEntry.bytes) s)
    ∧ (∀ l : LaneId, let b : Byte := BitVec.ofNat 8 l.val
      exec (.getNeedles tag b) s = .next (answered tag (.getNeedles b) .done
        (b :: s.needles.entries[l].toList.map (fun e => e.state.code)
          ++ s.needles.entries[l].toList.map (fun e => BitVec.ofNat 8 e.breaks) ++ [s.config.breakAction[l].code]
          ++ reservationBytes s.needles.reservation ++ be1 s.needles.log.length) s))
    ∧ exec (.readTally tag) s = .next (
        let u := takeFeeds s
        answered tag .readTally .done
          (be1 u.tally.steps ++ be2 u.tally.mm ++ halfBytes u.tally.metres ++ halfBytes u.tally.panels ++ boolBytes u.tally.run
            ++ [u.tally.selection.code] ++ halfBytes u.tally.metreValue ++ halfBytes u.tally.panelValue
            ++ [u.tally.action.code]) u)
    ∧ exec (.readFlags tag) s = .next (answered tag .readFlags .done
        (flagBytes s.flags ++ flagBytes s.notice ++ boolBytes (s.flags &&& s.notice != 0)) s)
    ∧ exec (.getConfig tag) s = .next (answered tag .getConfig .done s.config.bytes s)
    ∧ (∀ m : Fin 16, let b : Byte := BitVec.ofNat 8 m.val
      exec (.getCompensation tag b) s = .next (answered tag (.getCompensation b) .done s.comp[m].bytes s))

/-- GET_LANE, GET_LINK and IDENTIFY are answered DONE with the items of Tables 3-6, 6-9 and 9-6 and change nothing else; a lane that is not
fitted reports the phase IDLE (R73, R128, R177, R179); the items beside it, the bytes of the next segment entry, the widths of IDENTIFY and
the bytes 255, 255, 255 of GET_LINK with no query outstanding are the model's (log 38, log 14, log 26, log 13). -/
def Obligations.LaneLinkAndIdentifyReports : Prop :=
  ∀ (tag : Byte) (s : State), s.attentive →
    (∀ l : LaneId, let b : Byte := BitVec.ofNat 8 l.val
      let ln := s.lanes[l]
      exec (.getLane tag b) s = .next (answered tag (.getLane b) .done
        ([(if s.fitted l then ln.phase else .idle).code, ln.role.code] ++ opt1 (ln.pattern.map Fin.val) ++ entryBytes ln.cur
          ++ nextEntryBytes ln.nxt ++ signed3 ln.x ++ be3 ln.y
          ++ (if ln.role = .feed then be2 ln.repeatIdx ++ be3 ln.stitchIdx else be2 0 ++ be3 0)
          ++ [ln.lastClass.code] ++ opt2 ln.target ++ optSet ln.lastMask ++ readyBytes ln.ready
          ++ boolBytes ln.buildWaiting ++ boolBytes ln.noticeDue) s))
    ∧ exec (.getLink tag) s = .next (answered tag .getLink .done
        ([s.link.state.code, s.line.mode.code] ++ mapBytes s.link ++ slotSetBytes s.link.awake ++ slotSetBytes s.link.missing
          ++ be1 s.link.wakeCount ++ s.link.miss.toList.flatMap be1 ++ s.link.lastState.toList.map moduleStateCode
          ++ s.link.presence.toList.flatMap setBytes ++ s.link.limits.toList.flatMap (fun l => be2 l.xmin ++ be2 l.xmax)
          ++ s.asm.pos.toList.flatMap be2 ++ boolBytes s.asm.carryPending ++ (match s.link.query with
            | none => [255, 255, 255]
            | some q => queryBytes (some ⟨q.slot, q.item, q.marker⟩))) s)
    ∧ exec (.identify tag) s = .next (answered tag .identify .done
        (be2 940 ++ be1 2 ++ be1 4 ++ be1 48 ++ be2 512 ++ be1 128 ++ be1 32 ++ be1 6 ++ be1 4 ++ be1 8 ++ be1 64) s)

/-- A pattern number above 127, a ring slot or needle set above 31, a material class above 15 and a lane above 3 are RANGE and change nothing
(R10, R11, R14, R16, R17, R20, R21, R23, R72, R73, R148, R173). -/
def Obligations.NumbersOutOfRangeAreRefused : Prop :=
  ∀ (tag b : Byte) (s : State), s.attentive →
    let ans := fun (r : Request) => Host.Outcome.next (φ := Fault) (ρ := Refusal) (answered tag r .range [] s)
    (128 ≤ b.toNat →
      (∀ pages : Byte, exec (.openPattern tag b pages) s = ans (.openPattern b pages))
      ∧ (∀ (first : Half) (records : List SegmentWire), 1 ≤ records.length → records.length ≤ 8 →
          exec (.appendSegments tag b first records) s = ans (.appendSegments b first records))
      ∧ exec (.closePattern tag b) s = ans (.closePattern b) ∧ exec (.freePattern tag b) s = ans (.freePattern b)
      ∧ exec (.getPattern tag b) s = ans (.getPattern b)
      ∧ ∀ (first : Half) (number : Byte), exec (.readSegments tag b first number) s = ans (.readSegments b first number))
    ∧ (32 ≤ b.toNat →
      (∀ w : PanelWire, exec (.writePanel tag b w) s = ans (.writePanel b w))
      ∧ exec (.readPanel tag b) s = ans (.readPanel b) ∧ exec (.setLast tag b) s = ans (.setLast b)
      ∧ exec (.getNeedleSet tag b) s = ans (.getNeedleSet b))
    ∧ (16 ≤ b.toNat → exec (.getCompensation tag b) s = ans (.getCompensation b))
    ∧ (4 ≤ b.toNat → exec (.getLane tag b) s = ans (.getLane b) ∧ exec (.getNeedles tag b) s = ans (.getNeedles b))

/-! ### The panel queue and the Sequencer -/

/-- WRITE_PANEL makes its checks in order and writes the whole descriptor, origins above 8191 stored as 8191; with no prefetch BLOCKED
while RUNNING no retry follows (R20). -/
def Obligations.WritePanelStoresDescriptor : Prop :=
  ∀ (tag : Byte) (i : RingIndex) (w : PanelWire) (s : State), s.attentive →
    (s.seq.state ≠ .running ∨ ∀ t, s.seq.prefetch ≠ .blocked t) →
    let b : Byte := BitVec.ofNat 8 i.val
    let lane := fun p : Byte => p = 255 ∨ p.toNat < 128
    let good := (∀ l : LaneId, lane w.patterns[l]) ∧ w.feedLane.toNat < 4 ∧ w.material.toNat < 16 ∧ 1 ≤ w.repeats.toNat
      ∧ w.repeats.toNat ≤ 1023
    if (i = s.seq.ci ∧ s.seq.ciStatus = .current) ∨ s.seq.prefetch.pi = some i then
      exec (.writePanel tag b w) s = .next (answered tag (.writePanel b w) .inUse [] s)
    else if ¬ good then exec (.writePanel tag b w) s = .next (answered tag (.writePanel b w) .range [] s)
    else ∃ d : Descriptor,
      (∀ l : LaneId, d.patterns[l].map Fin.val = (if w.patterns[l] = 255 then none else some w.patterns[l].toNat)
        ∧ d.origins[l] = min w.origins[l].toNat 8191)
      ∧ d.feedLane.val = w.feedLane.toNat ∧ d.material.val = w.material.toNat ∧ d.repeats = w.repeats.toNat
      ∧ d.gap = w.gap.toNat ∧ d.tieIn = w.flags.getLsbD 0 ∧ d.tieOut = w.flags.getLsbD 1 ∧ d.trimOut = w.flags.getLsbD 2
      ∧ d.notice = w.flags.getLsbD 3 ∧ d.pauseAfter = w.flags.getLsbD 4
      ∧ exec (.writePanel tag b w) s = .next (
          answered tag (.writePanel b w) (if ∃ l : LaneId, 8191 < w.origins[l].toNat then .clamped else .done) []
            { s with seq := { s.seq with ring := s.seq.ring.set i (some d) } })

/-- SET_LAST sets LVI. With no prefetch standing, nothing else changes in STOPPED and PAUSED, nor while RUNNING in GAP or TIE_IN; RUNNING
later in the panel it attempts the next prefetch, here of an EMPTY slot, which is FAULTED with DESCRIPTOR_FAULT; in DRAINED a slot other
than CI advances CI by one, UNSTARTED, and with the link not ACTIVE the Sequencer is STOPPED with LINK_DOWN. A prefetch HELD is dropped,
with its pins, where the new run ends at CI (R23, R30, R32). -/
def Obligations.SetLastMovesValidRun : Prop :=
  ∀ (tag : Byte) (i : RingIndex) (s : State), s.attentive →
    let b : Byte := BitVec.ofNat 8 i.val
    let ans := fun (t : State) => Host.Outcome.next (φ := Fault) (ρ := Refusal)
      (answered tag (.setLast b) .done (be1 s.seq.ci.val ++ [255] ++ be1 i.val) t)
    (s.seq.prefetch = .none →
      ((s.seq.state = .stopped ∨ s.seq.state = .paused ∨ (s.seq.state = .drained ∧ i = s.seq.ci)
          ∨ (s.seq.state = .running ∧ (s.seq.phase = .panel .gap ∨ s.seq.phase = .panel .tieIn))) →
        exec (.setLast tag b) s = ans { s with seq := { s.seq with lvi := i } })
      ∧ (s.seq.state = .running → s.seq.ciStatus = .current →
          (s.seq.phase = .panel .body ∨ s.seq.phase = .panel .tieOut ∨ s.seq.phase = .panel .trimOut) → i ≠ s.seq.ci →
          s.seq.ring[s.seq.ci + 1] = none →
        exec (.setLast tag b) s = ans { s with
          seq := { s.seq with lvi := i, prefetch := .faulted (s.seq.ci + 1) }
          flags := s.flags ||| Flag.descriptorFault.mask })
      ∧ (s.seq.state = .drained → i ≠ s.seq.ci → s.link.state ≠ .active →
        exec (.setLast tag b) s = .next (answered tag (.setLast b) .linkDown []
          { s with seq := { s.seq with lvi := i, ci := s.seq.ci + 1, ciStatus := .unstarted, state := .stopped } })))
    ∧ ∀ (h : RingIndex) (ctx : Context), s.seq.prefetch = .held h ctx → h ≠ s.seq.ci → i = s.seq.ci →
        (s.seq.state = .paused ∨ (s.seq.state = .running ∧ s.seq.ciStatus = .current)) →
        ∃ st : PatternStore,
          exec (.setLast tag b) s = ans { s with seq := { s.seq with lvi := i, prefetch := .none }, store := st }
          ∧ st = { s.store with dir := st.dir }
          ∧ ∀ n : PatternId, st.dir[n] = { s.store.dir[n] with
              pins := s.store.dir[n].pins - (allLanes.filter (fun l => ctx.desc.patterns[l] = some n)).length }

/-- CLOSE_PATTERN of a LOADING pattern with segments, while RUNNING with a prefetch BLOCKED, makes the pattern READY and retries the prefetch
before its reply, whether the panel is current, in WAIT after a completion or in WAIT at the start: the attempt passes, blocks again or
fails by the checks of R30, the feed bound included, with the context and the pins of R31; with no panel current a pass makes the panel
current, and a failure pauses with cause DESCRIPTOR (R6, R14, R29, R30, R31, R33, R38). That a lane with its last panel's end still in
flight is handed the panel with that notice is the model's choice (log 21). -/
def Obligations.BlockedPrefetchIsRetried : Prop :=
  ∀ (tag : Byte) (n : PatternId) (h : RingIndex) (s : State), s.attentive → s.seq.state = .running →
    s.seq.prefetch = .blocked h → s.store.dir[n].state = .loading → s.store.dir[n].count ≠ 0 →
    let b : Byte := BitVec.ofNat 8 n.val
    let ans := fun t : State => Host.Outcome.next (φ := Fault) (ρ := Refusal) (answered tag (.closePattern b) .done [] t)
    let u := { s with store := { s.store with dir := s.store.dir.set n { s.store.dir[n] with state := .ready } } }
    (s.seq.ciStatus = .current → ∃ t, exec (.closePattern tag b) s = ans t ∧ u.prefetches t)
    ∧ (s.seq.ciStatus = .completed → ∃ t, exec (.closePattern tag b) s = ans t ∧ u.starts false (s.seq.ci + 1) t)
    ∧ (s.seq.ciStatus = .unstarted → ∃ t, exec (.closePattern tag b) s = ans t ∧ u.starts false s.seq.ci t)

/-- A BLOCKED prefetch is retried by WRITE_PANEL while RUNNING, with a panel current or in WAIT (R20, R29, R38). RUN in PAUSED with a panel
current and the next prefetch BLOCKED or FAULTED goes on and retries it; with CI UNSTARTED it attempts the start prefetch; with the
panel COMPLETED, CI not LVI and no panel HELD it attempts the next one (R27). Each attempt passes, blocks or fails by the checks of R30,
with the context, the pins and the flags of R31, and with no panel current a pass makes the panel current, a block enters WAIT and a
failure pauses with cause DESCRIPTOR (R26, R30, R31, R33, R38). That a RUN blocked again enters WAIT anew and sets PANEL_WAIT (log 12),
and that a lane with its last panel's end still in flight is handed the panel with that notice (log 21), are the model's choices. -/
def Obligations.PrefetchesAreRetried : Prop :=
  (∀ (tag : Byte) (i h : RingIndex) (w : PanelWire) (d : Descriptor) (s : State), s.attentive → s.seq.state = .running →
      s.seq.prefetch = .blocked h → descriptorOf w = some d →
      let b : Byte := BitVec.ofNat 8 i.val
      let ans := fun t : State => Host.Outcome.next (φ := Fault) (ρ := Refusal)
        (answered tag (.writePanel b w) (if ∃ l : LaneId, 8191 < w.origins[l].toNat then .clamped else .done) [] t)
      let u := { s with seq := { s.seq with ring := s.seq.ring.set i (some d) } }
      (s.seq.ciStatus = .current → i ≠ s.seq.ci → ∃ t, exec (.writePanel tag b w) s = ans t ∧ u.prefetches t)
      ∧ (s.seq.ciStatus = .completed → ∃ t, exec (.writePanel tag b w) s = ans t ∧ u.starts false (s.seq.ci + 1) t)
      ∧ (s.seq.ciStatus = .unstarted → ∃ t, exec (.writePanel tag b w) s = ans t ∧ u.starts false s.seq.ci t))
  ∧ ∀ (tag : Byte) (s : State), s.attentive → s.seq.state = .paused → s.link.state = .active →
      let ans := fun t : State => Host.Outcome.next (φ := Fault) (ρ := Refusal)
        (answered tag .run .done [t.seq.state.code, t.seq.phase.code, t.seq.cause.code] t)
      let u := { s with seq := { s.seq with state := .running, cause := .none } }
      (s.seq.ciStatus = .current → (∃ h, s.seq.prefetch = .blocked h ∨ s.seq.prefetch = .faulted h) →
        ∃ t, exec (.run tag) s = ans t ∧ u.prefetches t)
      ∧ (s.seq.ciStatus = .unstarted → ∃ t, exec (.run tag) s = ans t ∧ u.starts true s.seq.ci t)
      ∧ (s.seq.ciStatus = .completed → s.seq.ci ≠ s.seq.lvi → (∀ h ctx, s.seq.prefetch ≠ .held h ctx) →
        ∃ t, exec (.run tag) s = ans t ∧ u.starts true (s.seq.ci + 1) t)

/-- SET_LAST in DRAINED with the link ACTIVE and a slot other than CI advances CI by one and attempts the start prefetch of it; in WAIT, a
slot that excludes the target of the next prefetch drops it and drains; while RUNNING with a panel current past TIE_IN it attempts the
next prefetch, and a prefetch BLOCKED whose target stays in the run is retried (R23, R29, R30, R31, R32, R38, R39). That a blocked
attempt from DRAINED enters WAIT and sets PANEL_WAIT (log 12), and that a lane with its last panel's end still in flight is handed the
panel with that notice (log 21), are the model's choices. -/
def Obligations.SetLastAttemptsAndDrains : Prop :=
  ∀ (tag : Byte) (i : RingIndex) (s : State), s.attentive →
    let b : Byte := BitVec.ofNat 8 i.val
    let ans := fun t : State => Host.Outcome.next (φ := Fault) (ρ := Refusal)
      (answered tag (.setLast b) .done (be1 t.seq.ci.val ++ opt1 (t.seq.prefetch.pi.map Fin.val) ++ be1 t.seq.lvi.val) t)
    let u := { s with seq := { s.seq with lvi := i } }
    (s.seq.state = .drained → s.seq.prefetch = .none → i ≠ s.seq.ci → s.link.state = .active →
      ∃ t, exec (.setLast tag b) s = ans t
        ∧ State.starts true (s.seq.ci + 1)
            { s with seq := { s.seq with lvi := i, ci := s.seq.ci + 1, ciStatus := .unstarted, state := .running } } t)
    ∧ (s.seq.state = .running →
      (∀ h, s.seq.phase = .wait → s.seq.ciStatus = .completed → s.seq.prefetch = .blocked h → h ≠ s.seq.ci → i = s.seq.ci →
        exec (.setLast tag b) s = ans { s with
          seq := { s.seq with lvi := i, prefetch := .none, state := .drained, phase := .none, cause := .none }
          flags := s.flags ||| Flag.queueDrained.mask })
      ∧ (s.seq.ciStatus = .current → i ≠ s.seq.ci →
          ((s.seq.prefetch = .none
              ∧ (s.seq.phase = .panel .body ∨ s.seq.phase = .panel .tieOut ∨ s.seq.phase = .panel .trimOut))
            ∨ s.seq.prefetch = .blocked (s.seq.ci + 1)) →
        ∃ t, exec (.setLast tag b) s = ans t ∧ u.prefetches t)
      ∧ (s.seq.ciStatus = .completed → i ≠ s.seq.ci → s.seq.prefetch = .blocked (s.seq.ci + 1) →
        ∃ t, exec (.setLast tag b) s = ans t ∧ u.starts false (s.seq.ci + 1) t)
      ∧ (s.seq.ciStatus = .unstarted → s.seq.prefetch = .blocked s.seq.ci →
        ∃ t, exec (.setLast tag b) s = ans t ∧ u.starts false s.seq.ci t))

/-- RUN in STOPPED is EMPTY at an EMPTY slot CI, else LINK_DOWN with the link not ACTIVE, and in PAUSED LINK_DOWN with the link not ACTIVE;
in RUNNING and DRAINED it is DONE; each changes nothing (R26, R27). In PAUSED with a panel current and no prefetch BLOCKED or FAULTED the
line resumes where it paused; with the panel COMPLETED it drains where CI is LVI, else makes a HELD panel current, whatever phase it starts
in (R27, R33, R35, R36). PAUSE in RUNNING makes the Sequencer PAUSED with cause REQUEST and keeps the rest; in DRAINED also phase NONE and
CI status COMPLETED; in STOPPED and PAUSED it changes nothing (R28). The replies carry state, phase and cause. That a lane with its last
panel's end still in flight is handed the panel with that notice is the model's choice (log 21). -/
def Obligations.RunAndPause : Prop :=
  (∀ (tag : Byte) (s : State), s.attentive →
      let ans := fun (r : Result) (t : State) => Host.Outcome.next (φ := Fault) (ρ := Refusal)
        (answered tag .run r [t.seq.state.code, t.seq.phase.code, t.seq.cause.code] t)
      (s.seq.state = .stopped → s.seq.ring[s.seq.ci] = none → exec (.run tag) s = ans .empty s)
      ∧ (s.seq.state = .stopped → s.seq.ring[s.seq.ci] ≠ none → s.link.state ≠ .active → exec (.run tag) s = ans .linkDown s)
      ∧ (s.seq.state = .paused → s.link.state ≠ .active → exec (.run tag) s = ans .linkDown s)
      ∧ ((s.seq.state = .running ∨ s.seq.state = .drained) → exec (.run tag) s = ans .done s)
      ∧ (s.seq.state = .paused → s.link.state = .active → s.seq.ciStatus = .current →
          (s.seq.prefetch = .none ∨ ∃ t ctx, s.seq.prefetch = .held t ctx) →
          exec (.run tag) s = ans .done { s with seq := { s.seq with state := .running, cause := .none } })
      ∧ (s.seq.state = .paused → s.link.state = .active → s.seq.ciStatus = .completed → s.seq.ci = s.seq.lvi →
          exec (.run tag) s = ans .done { s with
            seq := { s.seq with state := .drained, phase := .none, cause := .none }
            flags := s.flags ||| Flag.queueDrained.mask })
      ∧ ∀ (h : RingIndex) (ctx : Context), s.seq.state = .paused → s.link.state = .active → s.seq.ciStatus = .completed →
          s.seq.ci ≠ s.seq.lvi → s.seq.prefetch = .held h ctx →
          ∃ t, exec (.run tag) s = ans .done t
            ∧ State.makesCurrent h ctx { s with seq := { s.seq with state := .running, cause := .none } } t)
  ∧ (∀ (tag : Byte) (s : State), s.attentive →
      let q := match s.seq.state with
        | .running => { s.seq with state := .paused, cause := .request }
        | .drained => { s.seq with state := .paused, cause := .request, phase := .none, ciStatus := .completed }
        | _ => s.seq
      exec (.pause tag) s = .next (answered tag .pause .done [q.state.code, q.phase.code, q.cause.code] { s with seq := q }))

/-- RUN in STOPPED at a WRITTEN slot CI with the link ACTIVE is DONE, whatever becomes of the start prefetch of CI it attempts: a slot that
fails a check pauses with cause DESCRIPTOR and sets DESCRIPTOR_FAULT; one with a pattern that is not READY waits in WAIT; one that passes
is made current, with its context, the serial raised by one and its pins placed, in GAP, or with a gap of 0 in TIE_IN or BODY, and every
fitted lane starts on its first record and, with a pattern, on the request of segment 0 (R6, R26, R30, R31, R33, R35, R36, R38, R45, R48,
R50). That the blocked attempt sets PANEL_WAIT (log 12), and that a lane with its last panel's end still in flight is handed the panel with
that notice (log 21), are the model's choices. -/
def Obligations.RunStartsPanel : Prop :=
  ∀ (tag : Byte) (s : State), s.attentive → s.seq.state = .stopped → s.link.state = .active → s.seq.ciStatus = .unstarted →
    s.seq.ring[s.seq.ci] ≠ none →
    ∃ t, exec (.run tag) s = .next (answered tag .run .done [t.seq.state.code, t.seq.phase.code, t.seq.cause.code] t)
      ∧ State.starts true s.seq.ci { s with seq := { s.seq with state := .running } } t

/-- RESET_QUEUE in RUNNING is STATE and changes nothing; otherwise it is DONE: the feed reports in flight are counted, the Sequencer and
every lane go to their reset state, every pattern loses one pin for each lane reference of the current and the HELD context, lane
fetches waiting are withdrawn and those in flight cancelled, and everything else is kept (R6, R9, R18, R42, R74, R160). That every feed
report in flight is taken before the request, with what the mark comparator makes of it (log 3), and that the consumption reports and
notices in flight go with the reset (log 19) are the model's choices. -/
def Obligations.ResetQueueEmptiesRing : Prop :=
  ∀ (tag : Byte) (s : State), s.attentive →
    (s.seq.state = .running → exec (.resetQueue tag) s = .next (answered tag .resetQueue .state [] s))
    ∧ (s.seq.state ≠ .running →
      exec (.resetQueue tag) s = .next (answered tag .resetQueue .done [] (takeFeeds s).panelsReset))

/-- LINE_RESET, in every Sequencer state, is DONE: the feed reports in flight are counted, it does what RESET_QUEUE does to the Sequencer,
the lanes, the pins of the current and the HELD context and the lane fetches, clears the reservation, the history, the miss counts and the
last accepted sequence, and keeps the rest, the Management Unit's access included (R6, R9, R18, R44, R74, R129, R149, R160, R176, R178).
That every feed report in flight is taken before the request, which may raise the counts and set MARK (log 3), and that the consumption
reports and notices in flight go with the reset (log 19) are the model's choices. -/
def Obligations.LineResetStartsAfresh : Prop :=
  ∀ (tag : Byte) (s : State), s.attentive →
    let t := (takeFeeds s).panelsReset
    exec (.lineReset tag) s = .next (answered tag .lineReset .done []
      { t with
        line := { t.line with lastSeq := none }
        asm := { t.asm with history := [] }
        link := { t.link with miss := Vector.replicate 6 0 }
        needles := { t.needles with reservation := none } })

/-- A consumption that does not end its phase lowers the gap remainder by the feed taken, or the tie counter by one, or in BODY raises the
repeats by one at a repeat end, and tells every fitted lane that its phase goes on (R34, R35, R36, R59). One that ends its phase, where the
gap remainder, the tie counter or the repeats run out, or at once in TRIM_OUT, enters the next phase present, with its counter set and a
notice of it to every fitted lane; entry to BODY with LVI other than CI and no prefetch attempted yet attempts the next prefetch (R29, R30,
R31, R34, R35, R36, R59). That a consumption in flight at a pause is taken while PAUSED (log 4), and that PHASE_END is the same report as
SEQUENCER_CONSUMPTION where it ends the phase (log 5), are the model's choices. -/
def Obligations.PhaseCountersAndPhaseEnds : Prop :=
  ∀ (s : State) (ctx : Context) (p : PanelPhase) (r : SeqReport), s.seq.current = some ctx → s.seq.phase = .panel p →
    s.reports.sequencer = some r →
    let told := fun q : PanelPhase =>
      { s.reports with
        sequencer := none
        notices := Vector.ofFn (fun l => if s.fitted l then some (.phase q) else s.reports.notices[l]) }
    ((match p with
        | .gap => r.gapFeed < s.seq.gapRem
        | .tieIn | .tieOut => 2 ≤ s.seq.tie
        | .body => r.repeatEnd = false ∨ s.seq.repeats + 1 ≠ ctx.desc.repeats
        | .trimOut => False) →
      exec .sequencerConsumption s = .next { s with
        seq := { s.seq with
          gapRem := if p = .gap then s.seq.gapRem - r.gapFeed else s.seq.gapRem
          tie := if p = .tieIn ∨ p = .tieOut then s.seq.tie - 1 else s.seq.tie
          repeats := if p = .body ∧ r.repeatEnd = true then s.seq.repeats + 1 else s.seq.repeats }
        reports := told p })
    ∧ ∀ q : PanelPhase,
      (match p with
        | .gap => s.seq.gapRem ≤ r.gapFeed
        | .tieIn | .tieOut => s.seq.tie ≤ 1
        | .body => r.repeatEnd = true ∧ s.seq.repeats + 1 = ctx.desc.repeats
        | .trimOut => True) →
      (match p with
        | .gap => q = if ctx.desc.tieIn = true ∧ 0 < s.config.tIn then .tieIn else .body
        | .tieIn => q = .body
        | .body => (ctx.desc.tieOut = true ∧ 0 < s.config.tOut ∧ q = .tieOut)
            ∨ (¬ (ctx.desc.tieOut = true ∧ 0 < s.config.tOut) ∧ ctx.desc.trimOut = true ∧ q = .trimOut)
        | .tieOut => ctx.desc.trimOut = true ∧ q = .trimOut
        | .trimOut => False) →
      let u := { s with
        seq := { s.seq with
          phase := .panel q
          gapRem := if p = .gap then 0 else s.seq.gapRem
          tie := if q = .tieIn then s.config.tIn else if q = .tieOut then s.config.tOut
            else if p = .tieIn ∨ p = .tieOut then 0 else s.seq.tie
          repeats := if q = .body then 0 else if p = .body then s.seq.repeats + 1 else s.seq.repeats }
        reports := told q }
      ∃ t, exec .sequencerConsumption s = .next t ∧ exec .phaseEnd s = .next t
        ∧ if q = .body ∧ s.seq.lvi ≠ s.seq.ci ∧ s.seq.prefetch = .none then u.prefetches t else t = u

/-- The consumption that ends the last phase present completes the panel: it is counted by a RUNNING tally, PANEL_DONE is set if asked, the
context is discarded and its pins released, the lanes are told, and the line pauses with PANEL_FLAG or MARK, or drains where CI is LVI
(R37, R39, R152). The mark comparator has no selection here, and no prefetch stands. That the lanes' fetches are cancelled at once, so that
none reads a pattern whose pins are gone (R15), is the model's choice (log 27). -/
def Obligations.PanelCompletes : Prop :=
  ∀ (s : State) (ctx : Context) (r : SeqReport), s.seq.current = some ctx → s.seq.phase = .panel .trimOut →
    s.reports.sequencer = some r → s.seq.state = .running → s.seq.prefetch = .none → s.seq.lvi = s.seq.ci →
    s.tally.selection = .none → s.seq.ciStatus = .current →
    ∃ t, exec .phaseEnd s = .next t
      ∧ t.seq.current = none ∧ t.seq.ciStatus = .completed ∧ t.seq.phase = .none ∧ t.seq.ci = s.seq.ci
      ∧ t.tally = (if s.tally.run then { s.tally with panels := s.tally.panels + 1 } else s.tally)
      ∧ (ctx.desc.notice = true → t.hasFlag .panelDone = true)
      ∧ (ctx.desc.pauseAfter = true → t.seq.state = .paused ∧ t.seq.cause = .panelFlag ∧ t.seq.pausePending = false)
      ∧ (ctx.desc.pauseAfter = false → s.seq.pausePending = true →
          t.seq.state = .paused ∧ t.seq.cause = .mark ∧ t.seq.pausePending = false)
      ∧ (ctx.desc.pauseAfter = false → s.seq.pausePending = false →
          t.seq.state = .drained ∧ t.seq.cause = .none ∧ t.hasFlag .queueDrained = true)
      ∧ (∀ l : LaneId, t.reports.notices[l] = if s.fitted l then some (.panelEnd none) else s.reports.notices[l])
      ∧ (∀ n : PatternId, t.store.dir[n] = { s.store.dir[n] with
          pins := s.store.dir[n].pins - (allLanes.filter (fun l => ctx.desc.patterns[l] = some n)).length })
      ∧ t.store = { s.store.withoutLanes s.fitted with dir := t.store.dir }
      ∧ t.lanes = s.lanes ∧ t.link = s.link ∧ t.asm = s.asm ∧ t.needles = s.needles ∧ t.config = s.config

/-- A panel completes from BODY, TIE_OUT or TRIM_OUT, whichever phase present is its last. With no pause asked and no mark, a FAULTED
prefetch pauses the line with cause DESCRIPTOR; else with CI at LVI the line drains; a HELD panel is made current with its pins, in whatever
phase it starts, and handed to every fitted lane with its notice; with a BLOCKED prefetch the line enters WAIT and sets PANEL_WAIT, and with
none attempted it enters WAIT and attempts it (R33 to R39, R45, R68). A Sequencer that completes the panel while PAUSED keeps its state, its
cause, any prefetch and pause-pending, with phase NONE: pause-pending acts at the first completion after RUN (R28, R157), and that a
consumption is taken while PAUSED is the model's choice (log 4). That the row PHASE_END is the report SEQUENCER_CONSUMPTION takes is the
model's choice too (log 5), and so is the cancelling of the lanes' fetches (log 27). -/
def Obligations.CompletionChoosesWhatFollows : Prop :=
  ∀ (s : State) (ctx : Context) (p : PanelPhase) (r : SeqReport), s.seq.current = some ctx → s.seq.phase = .panel p →
    s.reports.sequencer = some r → s.tally.selection = .none →
    let ties := ctx.desc.tieOut = true ∧ 0 < s.config.tOut
    ((p = .body ∧ r.repeatEnd = true ∧ s.seq.repeats + 1 = ctx.desc.repeats ∧ ¬ ties ∧ ctx.desc.trimOut = false)
      ∨ (p = .tieOut ∧ s.seq.tie ≤ 1 ∧ ctx.desc.trimOut = false) ∨ p = .trimOut) →
    let v := State.panelClosed ctx
      { s with
        seq := { s.seq with
          repeats := if p = .body then s.seq.repeats + 1 else s.seq.repeats
          tie := if p = .tieOut then 0 else s.seq.tie }
        reports := { s.reports with sequencer := none } }
    let w := { v with seq := { v.seq with phase := .wait }, flags := v.flags ||| Flag.panelWait.mask }
    exec .sequencerConsumption s = exec .phaseEnd s
    ∧ (s.seq.state = .paused → exec .phaseEnd s = .next { v with seq := { v.seq with phase := .none } })
    ∧ (s.seq.state = .running → s.seq.pausePending = false → ctx.desc.pauseAfter = false →
      (∀ h, s.seq.prefetch = .faulted h →
        exec .phaseEnd s = .next { v with seq := { v.seq with state := .paused, cause := .descriptor, phase := .none } })
      ∧ ((∀ h, s.seq.prefetch ≠ .faulted h) → s.seq.ci = s.seq.lvi →
        exec .phaseEnd s = .next { v with
          seq := { v.seq with state := .drained, cause := .none, phase := .none }, flags := v.flags ||| Flag.queueDrained.mask })
      ∧ (s.seq.ci ≠ s.seq.lvi → ∀ h, s.seq.prefetch = .blocked h → exec .phaseEnd s = .next w)
      ∧ (s.seq.ci ≠ s.seq.lvi → s.seq.prefetch = .none →
        ∃ t, exec .phaseEnd s = .next t ∧ w.starts false (s.seq.ci + 1) t)
      ∧ (s.seq.ci ≠ s.seq.lvi → ∀ h next, s.seq.prefetch = .held h next →
        ∃ t, exec .phaseEnd s = .next t ∧ v.makesCurrent h next t))

/-! ### The lanes -/

/-- The consumption report and a phase notice that names the lane's own phase may come in either order, with the same outcome (R59). A HOLD
lane that takes its consumption report removes its record and builds a HOLD record at its present target, with the rests the interlock
matrix gives from its last class to JUMP, and waits for its notice; the notice of the same phase then clears notice due and changes
nothing else (R56, R58, R59, R61, R64, R65). -/
def Obligations.ReportAndNoticeOfOnePhase : Prop :=
  (∀ (l : LaneId) (p : PanelPhase) (s t u : State), s.lanes[l].phase = .work p → s.reports.consumption[l] = .due →
      s.reports.notices[l] = some (.phase p) →
      (∃ v, exec (.laneConsumptionReport l) s = .next v ∧ exec (.phaseNotice l) v = .next t) →
      (∃ v, exec (.phaseNotice l) s = .next v ∧ exec (.laneConsumptionReport l) v = .next u) → t = u)
  ∧ (∀ (l : LaneId) (p : PanelPhase) (s : State), s.lanes[l].role = .hold → s.lanes[l].phase = .work p →
      (s.reports.consumption[l] = .due → s.lanes[l].cur = .absent → s.lanes[l].repeats ≠ 0 →
        (∀ r, s.lanes[l].ready = some r → r.feed = none) →
        exec (.laneConsumptionReport l) s = .next
          { s with
            lanes := s.lanes.set l
              { s.lanes[l] with
                ready := some ⟨.hold, s.lanes[l].target, 0, s.interlock[interlockIndex s.lanes[l].lastClass.index 1], none, false⟩
                lastClass := .jump
                noticeDue := true
                buildWaiting := false
                undo := some ⟨s.lanes[l].x, s.lanes[l].y, s.lanes[l].lastClass, s.lanes[l].target, s.lanes[l].lastMask⟩ }
            reports := { s.reports with consumption := s.reports.consumption.set l .none } })
      ∧ (s.reports.consumption[l] ≠ .due → s.reports.notices[l] = some (.phase p) →
        exec (.phaseNotice l) s = .next
          { s with
            lanes := s.lanes.set l { s.lanes[l] with noticeDue := false }
            reports := { s.reports with notices := s.reports.notices.set l none } }))

/-- A notice of another phase of the panel that comes before the lane's consumption report moves the lane to it, with the record it holds
left as it stands and no build begun. One that comes after the report ends the old build, takes back the effects of a finished record,
and begins the build of the new phase: HOLD in a HOLD lane, TRIM or TACK at the present target in TRIM_OUT and TIE_OUT, and in TIE_IN
and BODY the record of the current segment, or with that absent a build that waits. A lane that leaves BODY empties its buffer and cancels
its fetch; one that enters BODY starts its coordinates and its stitch index at 0 (R9, R52, R55, R58 to R67, R75, R77, R88, R89). -/
def Obligations.PhaseNoticeNamesAnotherPhase : Prop :=
  ∀ (l : LaneId) (p q : PanelPhase) (s : State), s.lanes[l].phase = .work p → s.reports.notices[l] = some (.phase q) → p ≠ q →
    let ln := s.lanes[l]
    let store := s.store.withoutLanes (fun k => decide (p = PanelPhase.body) && k == l)
    let reports := { s.reports with notices := s.reports.notices.set l none }
    let enter := fun v : Lane => { v with
      phase := .work q
      x := if q = PanelPhase.body then 0 else v.x
      y := if q = .body then 0 else v.y
      stitchIdx := if q = .body then 0 else v.stitchIdx
      cur := if p = .body then .absent else v.cur
      nxt := if p = .body then .absent else v.nxt }
    (s.reports.consumption[l] = .due →
      exec (.phaseNotice l) s = .next
        { s with
          lanes := s.lanes.set l (enter ln)
          store := store
          reports := { reports with consumption := s.reports.consumption.set l (.noticed true) } })
    ∧ (s.reports.consumption[l] ≠ .due →
      let back : Undo := match ln.ready, ln.undo with
        | some _, some u => u
        | _, _ => ⟨ln.x, ln.y, ln.lastClass, ln.target, ln.lastMask⟩
      let old := enter { ln with
        x := back.x, y := back.y, lastClass := back.lastClass, target := back.target, lastMask := back.lastMask
        ready := none, undo := none, buildWaiting := false, noticeDue := false }
      exec (.phaseNotice l) s = .next
        { s with lanes := s.lanes.set l (s.laneBuild l q old), store := store, reports := reports, flags := s.flagsBuilt l q old })

/-- A notice of the panel's end puts a working lane in DONE, with role NONE, no pattern, no record and an empty buffer, its fetch cancelled.
Before the consumption report the record it holds is consumed with the effects of its build standing, and the report is gone; after it
the build begun on it is taken back. In IDLE and DONE the notice is ignored (R9, R47, R52, R60, R68). A panel handed along with the end
starts from DONE: the lane takes its role, pattern and place, keeps last class and present target, builds its first record at once, with
a pattern requests segment 0, and in TIE_IN or BODY waits for it (R45, R48, R50, R58, R61, R68). That a panel goes along with any notice
of panel end still in flight is the model's choice (log 21). -/
def Obligations.PanelEndReachesLane : Prop :=
  (∀ (l : LaneId) (s : State), s.reports.notices[l] = some (.panelEnd none) →
      let ln := s.lanes[l]
      let reports := { s.reports with notices := s.reports.notices.set l none }
      let store := s.store.withoutLanes (fun k => k == l)
      let ended := fun v : Lane => { v with
        phase := .done, role := .none, pattern := none, ready := none, buildWaiting := false, noticeDue := false, undo := none,
        cur := .absent, nxt := .absent }
      ((ln.phase = .idle ∨ ln.phase = .done) → exec (.phaseNotice l) s = .next { s with reports := reports })
      ∧ ∀ p, ln.phase = .work p →
        (s.reports.consumption[l] = .due →
          exec (.phaseNotice l) s = .next
            { s with
              lanes := s.lanes.set l (ended ln.spent)
              store := store
              reports := { reports with consumption := s.reports.consumption.set l .none } })
        ∧ (s.reports.consumption[l] ≠ .due →
          let back : Undo := match ln.ready, ln.undo with
            | some _, some u => u
            | _, _ => ⟨ln.x, ln.y, ln.lastClass, ln.target, ln.lastMask⟩
          exec (.phaseNotice l) s = .next
            { s with
              lanes := s.lanes.set l (ended { ln with
                x := back.x, y := back.y, lastClass := back.lastClass, target := back.target, lastMask := back.lastMask })
              store := store
              reports := reports }))
  ∧ ∀ (l : LaneId) (j : LaneJob) (s : State), s.reports.notices[l] = some (.panelEnd (some j)) →
      let with_ := fun (n : Option LaneJob) (t : State) =>
        { t with reports := { t.reports with notices := t.reports.notices.set l (some (.panelEnd n)) } }
      (∀ t, exec (.phaseNotice l) (with_ none s) = .next t →
        exec (.phaseNotice l) s = exec (.phaseNotice l) (with_ (some j) t))
      ∧ ((s.lanes[l].phase = .idle ∨ s.lanes[l].phase = .done) →
        let store := s.store.withoutLanes (fun k => k == l)
        let ans := fun st : PatternStore => Host.Outcome.next (φ := Fault) (ρ := Refusal)
          { s with
            lanes := s.lanes.set l (s.laneStarted l j)
            store := st
            reports := { s.reports with notices := s.reports.notices.set l none } }
        (j.role = .hold → exec (.phaseNotice l) s = ans store)
        ∧ ∀ n : PatternId, (j.role = .pattern ∨ j.role = .feed) → j.pattern = some n →
          exec (.phaseNotice l) s = ans (store.request (laneRequester l) (s.store.dir[n].pages.getD 0 0 * 32)))

/-- A pattern lane in BODY moves its walk on at its consumption report: one cycle more of its segment, or, where the segment's effective
count is reached, the next entry of its buffer; its repeat-end record raises the repeat index but at the last repeat (R49, R53, R54, R55,
R84). -/
def Obligations.WalkMovesAtConsumption : Prop :=
  ∀ (l : LaneId) (s : State) (i c : Nat) (g : Segment) (r : Ready) (f : Nat), s.lanes[l].role = .feed →
    s.lanes[l].phase = .work .body → s.lanes[l].cur = .record i c g → s.lanes[l].ready = some r → r.feed = some f →
    s.reports.consumption[l] = .due →
    ∃ t, exec (.laneConsumptionReport l) s = .next t ∧ t.lanes[l].yFed = s.lanes[l].yFed + f
      ∧ (c + 1 < (if g.kind = .trim then 1 else g.count) → t.lanes[l].cur = .record i (c + 1) g)
      ∧ (c + 1 = (if g.kind = .trim then 1 else g.count) → t.lanes[l].cur = s.lanes[l].nxt)
      ∧ (r.repeatEnd = true → s.lanes[l].repeatIdx + 1 ≠ s.lanes[l].repeats →
          t.lanes[l].repeatIdx = s.lanes[l].repeatIdx + 1 ∧ t.lanes[l].stitchIdx = 0)
      ∧ (r.repeatEnd = false ∨ s.lanes[l].repeatIdx + 1 = s.lanes[l].repeats →
          t.lanes[l].repeatIdx = s.lanes[l].repeatIdx ∧ t.lanes[l].stitchIdx = s.lanes[l].stitchIdx + 1)
      ∧ t.lanes[l].noticeDue = true ∧ (∀ k : LaneId, k ≠ l → t.lanes[k] = s.lanes[k])
      ∧ t.seq = s.seq ∧ t.link = s.link ∧ t.asm = s.asm ∧ t.needles = s.needles ∧ t.tally = s.tally ∧ t.line = s.line
      ∧ t.mgmt = s.mgmt ∧ t.config = s.config ∧ t.store.mem = s.store.mem ∧ t.store.dir = s.store.dir

/-- At its consumption report a lane removes its record, with its counts, and builds the next for the phase it is in. Where the report comes
first, or after a notice of the same phase, a pattern or feed lane in BODY moves its walk first, and requests the segment after the one it
comes to; where a notice of another phase was taken before it, the walk stays, and the record built is the new phase's. The record is what
Table 3-5 names; in BODY it has the class of the segment, the target from the saturated coordinate, scaled, rounded away from zero and
clamped into the travel limits, the named needles that are present, the rests from the interlock matrix, and in the feed lane the movement
of the rounded feed position, 0 past the maximum, with the repeat-end mark; CLAMP is set where something was clamped. With the segment
absent the build waits. Notice due is set where the report comes first, and clear after the notice (R49, R50, R53 to R55, R57 to R66, R75,
R77 to R80, R82, R84, R88, R89). That no segment is requested once the panel has ended is the model's choice (log 27). -/
def Obligations.ConsumptionBuildsNextRecord : Prop :=
  ∀ (l : LaneId) (p : PanelPhase) (s : State), s.lanes[l].phase = .work p →
    let ln := s.lanes[l]
    let ans := fun w : Lane × PatternStore => Host.Outcome.next (φ := Fault) (ρ := Refusal)
      { s with
        lanes := s.lanes.set l (s.laneBuild l p w.1)
        store := w.2
        flags := s.flagsBuilt l p w.1
        reports := { s.reports with consumption := s.reports.consumption.set l .none } }
    let stays := fun due : Bool => { ln.spent with noticeDue := due }
    let moves := fun due : Bool => { (if p = .body then ln.spent.walked else ln.spent) with noticeDue := due }
    (∀ n : PatternId, (ln.role = .pattern ∨ ln.role = .feed) → ln.pattern = some n →
      (s.reports.consumption[l] = .due → exec (.laneConsumptionReport l) s = ans (s.following l n (moves true) s.store))
      ∧ (s.reports.consumption[l] = .noticed false →
          exec (.laneConsumptionReport l) s = ans (s.following l n (moves false) s.store))
      ∧ (s.reports.consumption[l] = .noticed true →
          exec (.laneConsumptionReport l) s = ans (s.following l n (stays false) s.store)))
    ∧ (ln.role = .hold → ln.cur = .absent →
      (s.reports.consumption[l] = .due → exec (.laneConsumptionReport l) s = ans (stays true, s.store))
      ∧ ∀ changed, s.reports.consumption[l] = .noticed changed → exec (.laneConsumptionReport l) s = ans (stays false, s.store))

/-- The completion of a cancelled lane fetch touches no lane: it only frees the port for the next requester (R7, R9). The completion of one
not cancelled puts the record read in the place of the fetch, the current entry or the next one, with its index and 0 cycles; the lane
requests the following segment where it has none behind the current one; and a build that waited for the current segment is finished as
Table 3-5 names it, with CLAMP where it finds a clamp (R50, R51, R53, R58, R61 to R66, R88). That the port grants before that request (log
11), and that no segment is requested once the panel has ended (log 27), are the model's choices. The port grants a waiting requester at
once when it is free, the first in circular order after the one granted last, and never a requester that does not wait (R7, R8). -/
def Obligations.FetchCompletionAndArbiter : Prop :=
  (∀ (l : LaneId) (s : State) (addr : Nat),
      (s.store.inFlight = some ⟨laneRequester l, addr, true⟩ →
        exec (.laneFetchCompletion l) s = .next { s with store := { s.store with inFlight := none }.grant })
      ∧ ∀ (i : Nat) (n : PatternId) (v : Lane), s.store.inFlight = some ⟨laneRequester l, addr, false⟩ → s.lanes[l].pattern = some n →
        (let ln := s.lanes[l]
          let got := BufEntry.record i 0 (memRead s.store.mem addr)
          (ln.cur = .fetch i ∧ v = { ln with cur := got })
          ∨ ((∃ k c g, ln.cur = .record k c g) ∧ ln.nxt = .fetch i ∧ v = { ln with nxt := got })) →
        let w := s.following l n v { s.store with inFlight := none }.grant
        (s.lanes[l].buildWaiting = false →
          exec (.laneFetchCompletion l) s = .next { s with lanes := s.lanes.set l w.1, store := w.2 })
        ∧ ∀ p, s.lanes[l].phase = .work p → s.lanes[l].buildWaiting = true →
          exec (.laneFetchCompletion l) s = .next
            { s with lanes := s.lanes.set l (s.laneBuild l p w.1), store := w.2, flags := s.flagsBuilt l p w.1 })
  ∧ (∀ st : PatternStore, st.inFlight = none →
      ((∀ r : Requester, st.waiting[r] = none) → st.grant = st)
      ∧ ∀ (d : Nat) (r : Requester) (a : Nat), 1 ≤ d → d ≤ 5 → r = st.lastGrant + Fin.ofNat 5 d → st.waiting[r] = some a →
        (∀ e : Nat, 1 ≤ e → e < d → st.waiting[st.lastGrant + Fin.ofNat 5 e] = none) →
        st.grant = { st with inFlight := some ⟨r, a, false⟩, waiting := st.waiting.set r none, lastGrant := r })

/-! ### Tables -/

/-- SET_NEEDLE_SET, SET_INTERLOCK and SET_COMPENSATION store their values, brought into range with CLAMPED, and refuse a number
out of range with RANGE; each changes only its own table (R71, R91, R173). SET_BAND writes a whole row, a ceiling above 4000
stored as 4000 and a Dmax brought into 1 to 255, CLAMPED where a value changed; a row above 7 is RANGE; no other row and nothing
else changes (R97). -/
def Obligations.TableWritesStoreValues : Prop :=
  (∀ (tag : Byte) (s : State), s.attentive →
      (∀ (b : Byte) (needles : NeedleSet),
        (32 ≤ b.toNat → exec (.setNeedleSet tag b needles) s = .next (answered tag (.setNeedleSet b needles) .range [] s))
        ∧ ∀ k : Fin 32, b.toNat = k.val → exec (.setNeedleSet tag b needles) s = .next (
            answered tag (.setNeedleSet b needles) .done (b :: setBytes needles)
              { s with needleSets := s.needleSets.set k needles }))
      ∧ (∀ (x y v : Byte),
        ((4 ≤ x.toNat ∨ 4 ≤ y.toNat) → exec (.setInterlock tag x y v) s = .next (answered tag (.setInterlock x y v) .range [] s))
        ∧ ∀ b c : Fin 4, x.toNat = b.val → y.toNat = c.val → exec (.setInterlock tag x y v) s = .next (
            answered tag (.setInterlock x y v) (if v.toNat ≤ 7 then .done else .clamped) ([x, y] ++ be1 (min v.toNat 7))
              { s with interlock := s.interlock.set (interlockIndex b c) (min v.toNat 7) }))
      ∧ ∀ (b : Byte) (sx : Vector Half 4) (sy : Half),
        let fit := fun h : Half => if h.toNat < 3686 then 3686 else if 4915 < h.toNat then 4915 else h.toNat
        let row : CompRow := ⟨sx.map fit, fit sy⟩
        (16 ≤ b.toNat → exec (.setCompensation tag b sx sy) s = .next (answered tag (.setCompensation b sx sy) .range [] s))
        ∧ ∀ m : Fin 16, b.toNat = m.val → exec (.setCompensation tag b sx sy) s = .next (
            answered tag (.setCompensation b sx sy)
              (if (∀ l : LaneId, fit sx[l] = sx[l].toNat) ∧ fit sy = sy.toNat then .done else .clamped)
              (row.sx.toList.flatMap be2 ++ be2 row.sy)
              { s with comp := s.comp.set m row }))
  ∧ (∀ (tag b : Byte) (ceiling : Half) (dmax : Vector Half 4) (s : State), s.attentive →
      let fit := fun h : Half => if h.toNat = 0 then 1 else if 255 < h.toNat then 255 else h.toNat
      let row : Band := ⟨min ceiling.toNat 4000, dmax.map fit⟩
      (8 ≤ b.toNat → exec (.setBand tag b ceiling dmax) s = .next (answered tag (.setBand b ceiling dmax) .range [] s))
      ∧ ∀ k : Fin 8, b.toNat = k.val → exec (.setBand tag b ceiling dmax) s = .next (
          answered tag (.setBand b ceiling dmax)
            (if ceiling.toNat ≤ 4000 ∧ ∀ l : LaneId, fit dmax[l] = dmax[l].toNat then .done else .clamped)
            (b :: be2 row.ceiling ++ row.dmax.toList.flatMap be2)
            { s with asm := { s.asm with bands := s.asm.bands.set k row } }))

/-- SET_SLOT_MAP is STATE unless the Sequencer is STOPPED and the link OFF or FAILED, RANGE for a slot above 5 other than NONE,
CONFLICT where two assignments name one slot; otherwise it replaces the map and clears miss counts, awake mask and last module
states (R115). SET_PRESENCE is RANGE for a lane above 3 and STATE unless STOPPED; otherwise it replaces the lane's mask, a
needle that becomes present is ENGAGED, one that becomes absent ABSENT and its reservation cleared, and every other needle,
every break count and all else stay (R116, R130, R131). SET_LIMITS is RANGE for a lane above 3 or Xmin above Xmax, STATE unless
STOPPED; otherwise the limits are stored, values above 8191 as 8191 with CLAMPED, the recorded position is clamped into them,
and position carry pending is set if it moved (R105, R117). -/
def Obligations.MachineDescriptionWrites : Prop :=
  (∀ (tag feed : Byte) (slots : Vector Byte 4) (s : State), s.attentive →
      let all := [slots[0], slots[1], slots[2], slots[3], feed]
      let slot := fun b : Byte => (if h : b.toNat < 6 then some ⟨b.toNat, h⟩ else none : Option SlotId)
      let h := { s.link with slotLane := slots.map slot, slotFeed := slot feed, miss := Vector.replicate 6 0, awake := 0,
                             lastState := Vector.replicate 6 none }
      exec (.setSlotMap tag slots feed) s = .next (
        if ¬ (s.seq.state = .stopped ∧ (s.link.state = .off ∨ s.link.state = .failed)) then
          answered tag (.setSlotMap slots feed) .state [] s
        else if ∃ b ∈ all, 6 ≤ b.toNat ∧ b ≠ 255 then answered tag (.setSlotMap slots feed) .range [] s
        else if ¬ (all.filter (fun b => b ≠ 255)).Nodup then answered tag (.setSlotMap slots feed) .conflict [] s
        else answered tag (.setSlotMap slots feed) .done all { s with link := h }))
  ∧ (∀ (tag b : Byte) (m : NeedleSet) (s : State), s.attentive →
      (4 ≤ b.toNat → exec (.setPresence tag b m) s = .next (answered tag (.setPresence b m) .range [] s))
      ∧ ∀ l : LaneId, b.toNat = l.val →
        (s.seq.state ≠ .stopped → exec (.setPresence tag b m) s = .next (answered tag (.setPresence b m) .state [] s))
        ∧ (s.seq.state = .stopped → ∃ t : NeedleTable,
          exec (.setPresence tag b m) s = .next (answered tag (.setPresence b m) .done (b :: setBytes m)
            { s with link := { s.link with presence := s.link.presence.set l m }, needles := t })
          ∧ t.log = s.needles.log
          ∧ (∀ (k : LaneId) (n : NeedleId), t.entry k n =
              if k = l ∧ ¬ s.link.presence[l].getLsbD n.val ∧ m.getLsbD n.val then ⟨.engaged, (s.needles.entry k n).breaks⟩
              else if k = l ∧ s.link.presence[l].getLsbD n.val ∧ ¬ m.getLsbD n.val then ⟨.absent, (s.needles.entry k n).breaks⟩
              else s.needles.entry k n)
          ∧ t.reservation = (match s.needles.reservation with
              | some (k, n) => if k = l ∧ s.link.presence[l].getLsbD n.val ∧ ¬ m.getLsbD n.val then none else some (k, n)
              | none => none)))
  ∧ (∀ (tag b : Byte) (xmin xmax : Half) (s : State), s.attentive →
      let lo := min xmin.toNat 8191
      let hi := min xmax.toNat 8191
      (4 ≤ b.toNat → exec (.setLimits tag b xmin xmax) s = .next (answered tag (.setLimits b xmin xmax) .range [] s))
      ∧ ∀ l : LaneId, b.toNat = l.val →
        let p := if s.asm.pos[l] < lo then lo else if hi < s.asm.pos[l] then hi else s.asm.pos[l]
        exec (.setLimits tag b xmin xmax) s = .next (
          if s.seq.state ≠ .stopped then answered tag (.setLimits b xmin xmax) .state [] s
          else if hi < lo then answered tag (.setLimits b xmin xmax) .range [] s
          else answered tag (.setLimits b xmin xmax) (if 8191 < xmin.toNat ∨ 8191 < xmax.toNat then .clamped else .done)
            (b :: be2 lo ++ be2 hi ++ be2 p)
            { s with
              link := { s.link with limits := s.link.limits.set l ⟨lo, hi⟩ }
              asm := { s.asm with pos := s.asm.pos.set l p, carryPending := s.asm.carryPending || p != s.asm.pos[l] } }))

/-- SET_CONFIG stores each item brought into its range, CLAMPED where the value changed or an FMAX write lowered Fgap; FMAX is STATE unless
STOPPED; BREAK_ACTION is RANGE for a lane above 3 or a value above 1; the reply carries the whole table (R171). CLEAR_FLAGS clears the
flags it names and leaves the others; SET_NOTICE replaces the notice mask and changes no flag; the attention bit in each reply is set
exactly while a set flag is in the mask (R169, R170, R181). That bits 12 to 15 of the sets of flags in the replies are 0 is the model's choice
(log 39). -/
def Obligations.ConfigFlagsAndNotice : Prop :=
  (∀ (tag lane : Byte) (value : Half) (s : State), s.attentive →
      let v := value.toNat
      let c := s.config
      let ans := fun (item : Byte) (clamped : Bool) (t : ConfigTable) => Host.Outcome.next (φ := Fault) (ρ := Refusal)
        (answered tag (.setConfig item lane value) (if clamped then .clamped else .done) t.bytes { s with config := t })
      let fmax := if v = 0 then 1 else if 400 < v then 400 else v
      let fgap := if v = 0 then 1 else if c.fmax < v then c.fmax else v
      (s.seq.state ≠ .stopped →
        exec (.setConfigFmax tag lane value) s = .next (answered tag (.setConfig 0 lane value) .state [] s))
      ∧ (s.seq.state = .stopped → exec (.setConfigFmax tag lane value) s
          = ans 0 (decide (fmax ≠ v ∨ fmax < c.fgap)) { c with fmax := fmax, fgap := min c.fgap fmax })
      ∧ (1 ≤ c.fmax → exec (.setConfigFgap tag lane value) s = ans 1 (decide (fgap ≠ v)) { c with fgap := fgap })
      ∧ exec (.setConfigTIn tag lane value) s = ans 2 (decide (7 < v)) { c with tIn := min v 7 }
      ∧ exec (.setConfigTOut tag lane value) s = ans 3 (decide (7 < v)) { c with tOut := min v 7 }
      ∧ exec (.setConfigDwellLimit tag lane value) s = ans 4 (decide (255 < v)) { c with dwellLimit := min v 255 }
      ∧ ((4 ≤ lane.toNat ∨ 2 ≤ v) →
          exec (.setConfigBreakAction tag lane value) s = .next (answered tag (.setConfig 5 lane value) .range [] s))
      ∧ ∀ l : LaneId, lane.toNat = l.val → v < 2 → exec (.setConfigBreakAction tag lane value) s
          = ans 5 false { c with breakAction := c.breakAction.set l (if v = 0 then .cont else .hold) })
  ∧ (∀ (tag : Byte) (h : Half) (s : State), s.attentive →
      (∃ t, exec (.clearFlags tag h) s = .next (answered tag (.clearFlags h) .done
          (flagBytes t.flags ++ boolBytes (t.flags &&& t.notice != 0)) t)
        ∧ t = { s with flags := t.flags } ∧ ∀ f : Flag, t.hasFlag f = (s.hasFlag f && !h.getLsbD f.bit))
      ∧ ∃ t, exec (.setNotice tag h) s = .next (answered tag (.setNotice h) .done
          (flagBytes t.notice ++ boolBytes (t.flags &&& t.notice != 0)) t)
        ∧ t = { s with notice := t.notice } ∧ ∀ f : Flag, t.notice.getLsbD f.bit = h.getLsbD f.bit)

/-! ### The head link -/

/-- LINK_START in OFF or FAILED is EMPTY with no mapped slot, else the link is WAKING with masks and counts cleared; in WAKING and ACTIVE it
changes nothing (R119). LINK_STOP is STATE while RUNNING, else the link is OFF with the awake mask cleared; in OFF it changes nothing
(R121). HEAD_QUERY is RANGE for a slot that is not mapped or an item above 15, then LINK_DOWN unless the link is ACTIVE; otherwise the
query is outstanding with the next marker, from 15 to 1, and holds the head of the queue with no reply yet (R124). -/
def Obligations.LinkRequests : Prop :=
  (∀ (tag : Byte) (s : State), s.attentive →
      exec (.linkStart tag) s = .next (
        if s.link.state = .waking ∨ s.link.state = .active then answered tag .linkStart .done [] s
        else if s.link.mapped = 0 then answered tag .linkStart .empty [] s
        else answered tag .linkStart .done []
          { s with link := { s.link with state := .waking, awake := 0, missing := 0, wakeCount := 0,
                                         miss := Vector.replicate 6 0 } })
      ∧ exec (.linkStop tag) s = .next (
        if s.seq.state = .running then answered tag .linkStop .state [] s
        else if s.link.state = .off then answered tag .linkStop .done [] s
        else answered tag .linkStop .done [] { s with link := { s.link with state := .off, awake := 0 } }))
  ∧ (∀ (tag slot item : Byte) (s : State), s.attentive → 1 ≤ s.link.marker → s.link.marker ≤ 15 →
      let m := if s.link.marker = 15 then 1 else s.link.marker + 1
      (6 ≤ slot.toNat → exec (.headQuery tag slot item) s = .next (answered tag (.headQuery slot item) .range [] s))
      ∧ ∀ k : SlotId, slot.toNat = k.val → exec (.headQuery tag slot item) s = .next (
        if inSlots s.link.mapped k = false ∨ 16 ≤ item.toNat then answered tag (.headQuery slot item) .range [] s
        else if s.link.state ≠ .active then answered tag (.headQuery slot item) .linkDown [] s
        else { s with
          link := { s.link with marker := m, query := some ⟨k, item.toNat, m, none⟩ }
          mgmt := ⟨[⟨tag, .headQuery slot item⟩], some .query⟩ }))

/-- A return from a slot that is not mapped changes nothing. A return from a mapped slot in any state but WAKING, with no thread
missing and no query outstanding, sets the slot's miss count to 0, records its state, and sets READY-seen if READY (R122). A
READY return in WAKING after the first WAKE frame joins the awake mask, and the last mapped slot makes the link ACTIVE with
every count 0 and every mark set (R120). Bytes on the head link that make a whole frame with a bad CRC, a type other than 17, a
length other than 13 or a slot above 5 change nothing, and in LOOPBACK frames are ignored (R126, R183). That in LOOPBACK no bytes change
anything, those of a part of a frame and the receiver included, is the model's choice (log 37). -/
def Obligations.ModuleReturnsAreNotedOrDiscarded : Prop :=
  (∀ (r : ModuleReturn) (s : State), (∀ m d, r.answer = some (m, d) → 1 ≤ m ∧ m ≤ 15) → s.link.receiver = .hunting →
      s.line.mode ≠ .loopback → s.link.query = none → s.mgmt.queue = [] → r.missing = 0 →
      let h := { s.link with
        miss := s.link.miss.set r.slot 0
        lastState := s.link.lastState.set r.slot (some r.state)
        seen := if r.state = .ready then s.link.seen ||| slotBit r.slot else s.link.seen }
      let awake := s.link.awake ||| slotBit r.slot
      (inSlots s.link.mapped r.slot = false → exec (.moduleReturn r.bytes) s = .next s)
      ∧ (inSlots s.link.mapped r.slot = true → (s.link.state ≠ .waking ∨ r.state = .notReady ∨ s.link.wakeCount = 0) →
        exec (.moduleReturn r.bytes) s = .next { s with link := h })
      ∧ (inSlots s.link.mapped r.slot = true → s.link.state = .waking → r.state = .ready → 1 ≤ s.link.wakeCount →
        exec (.moduleReturn r.bytes) s = .next
          { s with link := if s.link.mapped &&& ~~~awake = 0 then
              { h with awake := awake, state := .active, miss := Vector.replicate 6 0, seen := BitVec.allOnes 6 }
            else { h with awake := awake } }))
  ∧ (∀ s : State, s.link.receiver = .hunting →
      (∀ (t len c1 c0 : Byte) (payload : List Byte), payload.length = len.toNat →
        (half c1 c0 ≠ crc (t :: len :: payload) ∨ t ≠ 17 ∨ len ≠ 13 ∨ ∃ b rest, payload = b :: rest ∧ 6 ≤ b.toNat) →
        exec (.moduleReturn (startByte :: t :: len :: (payload ++ [c1, c0]))) s = .next s)
      ∧ ∀ bytes : List Byte, s.line.mode = .loopback → exec (.moduleReturn bytes) s = .next s)

/-- A return from a lane's slot that reports one ENGAGED needle missing makes it BROKEN with its break count raised, sets THREAD_BREAK,
clears a reservation of it, and appends a repair record placed by the newest history entry of the return's sequence; with break action HOLD
a RUNNING line pauses with cause BREAK. With 64 records held the record is lost, REPAIR_LOST is set and a RUNNING line pauses with
REPAIR_FULL (R113, R134 to R137, R139). -/
def Obligations.ThreadBreakIsLogged : Prop :=
  ∀ (r : ModuleReturn) (s : State) (l : LaneId) (n : NeedleId), r.answer = none → s.link.receiver = .hunting →
    s.line.mode ≠ .loopback → s.link.query = none → s.mgmt.queue = [] → s.link.laneOfSlot r.slot = some l →
    r.missing = 1#48 <<< n.val → (s.needles.entry l n).state = .engaged → (s.needles.entry l n).breaks ≤ 255 →
    ∃ t, exec (.moduleReturn r.bytes) s = .next t
      ∧ t.needles.entry l n = ⟨.broken, min ((s.needles.entry l n).breaks + 1) 255⟩
      ∧ (∀ (k : LaneId) (m : NeedleId), ¬ (k = l ∧ m = n) → t.needles.entry k m = s.needles.entry k m)
      ∧ t.needles.reservation = (if s.needles.reservation = some (l, n) then none else s.needles.reservation)
      ∧ t.hasFlag .threadBreak = true
      ∧ (s.needles.log.length < 64 →
          (∃ pos, t.needles.log = s.needles.log ++ [⟨l, n, r.seq, pos⟩]
            ∧ ((∀ e ∈ s.asm.history, e.seq ≠ r.seq) → pos = none)
            ∧ ∀ (newer older : List HistoryEntry) (e : HistoryEntry), s.asm.history = newer ++ e :: older → e.seq = r.seq →
                (∀ x ∈ newer, x.seq ≠ r.seq) →
                pos = some ⟨e.kind, e.serial, e.phase, e.repeatIdx, e.stitchIdx, e.yFed, e.pos[l]⟩)
          ∧ t.seq = (if s.config.breakAction[l] = .hold ∧ s.seq.state = .running then
              { s.seq with state := .paused, cause := .break } else s.seq))
      ∧ (64 ≤ s.needles.log.length → t.needles.log = s.needles.log ∧ t.hasFlag .repairLost = true
          ∧ t.seq = (if s.seq.state = .running then { s.seq with state := .paused, cause := .repairFull } else s.seq))
      ∧ t.lanes = s.lanes ∧ t.store = s.store ∧ t.asm = s.asm ∧ t.tally = s.tally ∧ t.config = s.config ∧ t.line = s.line

/-- A thread-absent report takes its needles in ascending order: every ENGAGED needle it names becomes BROKEN with its break count raised
and its record appended after those before it, while the log has room, all placed by the one history lookup; a BROKEN, LOCKED or ABSENT
needle keeps its state, its count and makes no record. A reservation of a needle named that is not ABSENT is cleared. A RUNNING line
pauses by the first needle that asks: BREAK for a kept record under break action HOLD, REPAIR_FULL for a lost one (R25, R113, R132,
R133, R134, R135, R136, R137). -/
def Obligations.ThreadReportTakesNeedlesInOrder : Prop :=
  ∀ (r : ModuleReturn) (s : State) (l : LaneId), r.answer = none → s.link.receiver = .hunting → s.line.mode ≠ .loopback →
    s.link.query = none → s.mgmt.queue = [] → s.link.laneOfSlot r.slot = some l → s.needles.log.length ≤ 64 →
    (∀ n : NeedleId, (s.needles.entry l n).breaks ≤ 255) →
    let broken := allNeedles.filter (fun n => r.missing.getLsbD n.val && decide ((s.needles.entry l n).state = .engaged))
    let pos := (s.asm.history.find? (fun e => e.seq == r.seq)).map (fun e =>
      (⟨e.kind, e.serial, e.phase, e.repeatIdx, e.stitchIdx, e.yFed, e.pos[l]⟩ : Position))
    let pause := fun c : Cause => if s.seq.state = .running then { s.seq with state := .paused, cause := c } else s.seq
    ∃ t, exec (.moduleReturn r.bytes) s = .next t
      ∧ (∀ (k : LaneId) (n : NeedleId), t.needles.entry k n = if k = l ∧ n ∈ broken then
          ⟨.broken, min ((s.needles.entry l n).breaks + 1) 255⟩ else s.needles.entry k n)
      ∧ t.needles.log = (s.needles.log ++ broken.map (fun n => (⟨l, n, r.seq, pos⟩ : Repair))).take 64
      ∧ t.needles.reservation = (match s.needles.reservation with
          | some (k, n) => if k = l ∧ r.missing.getLsbD n.val ∧ (s.needles.entry l n).state ≠ .absent then none else some (k, n)
          | none => none)
      ∧ t.hasFlag .threadBreak = (s.hasFlag .threadBreak || !broken.isEmpty)
      ∧ t.hasFlag .repairLost = (s.hasFlag .repairLost || decide (64 < s.needles.log.length + broken.length))
      ∧ (∀ f : Flag, f ≠ .threadBreak → f ≠ .repairLost → t.hasFlag f = s.hasFlag f)
      ∧ t.seq = (if broken = [] then s.seq
          else if s.needles.log.length < 64 ∧ s.config.breakAction[l] = .hold then pause .break
          else if 64 < s.needles.log.length + broken.length then pause .repairFull else s.seq)
      ∧ t.lanes = s.lanes ∧ t.store = s.store ∧ t.asm = s.asm ∧ t.tally = s.tally ∧ t.config = s.config ∧ t.line = s.line
      ∧ t.reports = s.reports

/-- A return from the query's slot, after the query has ridden, whose answer has the query's marker ends the query with DONE and its data,
and leaves the queue empty (R125). Requests that wait behind it are taken next, in the order they arrived, after any return that ends the
query, and wait on after any other (R166). -/
def Obligations.MatchingAnswerEndsQuery : Prop :=
  (∀ (r : ModuleReturn) (s : State) (q : Query) (e : Entry) (d : Half), s.link.receiver = .hunting → s.line.mode ≠ .loopback →
      inSlots s.link.mapped r.slot = true → r.missing = 0 → r.answer = some (q.marker, d) → 1 ≤ q.marker → q.marker ≤ 15 →
      s.link.query = some q → q.slot = r.slot → q.sent.isSome = true → s.link.state = .active → s.mgmt = ⟨[e], some .query⟩ →
      exec (.moduleReturn r.bytes) s = .next
        (produce (.reply e.tag e.req.code .done (halfBytes d))
          { s with
            link := { s.link with
              miss := s.link.miss.set r.slot 0
              lastState := s.link.lastState.set r.slot (some r.state)
              seen := if r.state = .ready then s.link.seen ||| slotBit r.slot else s.link.seen
              query := none }
            mgmt := ⟨[], none⟩ }))
  ∧ ∀ (r : ModuleReturn) (s : State), s.link.receiver = .hunting → s.queueGoesOn (.moduleReturn r.bytes)

/-! ### Needles and tallies -/

/-- RESERVE_NEEDLE, RESTORE_NEEDLE and LOCK_NEEDLE by the state of the needle named and the reservation; a restore clears the reservation in
each of its cases, a lock only where it names the needle; break counts and other needles stay; a lane above 3 or a needle above 47 is
RANGE (R144, R145, R146). READ_REPAIRS is RANGE outside 1 to 4, EMPTY with no record, else carries the oldest records, DONE or CLAMPED,
and keeps them; RETIRE_REPAIRS removes the oldest k, CLAMPED where k is above the repair count, and changes nothing else (R141, R142). -/
def Obligations.NeedleAndRepairRequests : Prop :=
  ((∀ (tag x y : Byte) (s : State), s.attentive → (4 ≤ x.toNat ∨ 48 ≤ y.toNat) →
      exec (.reserveNeedle tag x y) s = .next (answered tag (.reserveNeedle x y) .range [] s)
      ∧ exec (.restoreNeedle tag x y) s = .next (answered tag (.restoreNeedle x y) .range [] s)
      ∧ exec (.lockNeedle tag x y) s = .next (answered tag (.lockNeedle x y) .range [] s))
    ∧ ∀ (tag x y : Byte) (l : LaneId) (n : NeedleId) (s : State), s.attentive → x.toNat = l.val → y.toNat = n.val →
      let e := s.needles.entry l n
      let put := fun st : NeedleState => s.needles.entries.set l (s.needles.entries[l].set n ⟨st, e.breaks⟩)
      exec (.reserveNeedle tag x y) s = .next (
        if e.state = .absent then answered tag (.reserveNeedle x y) .absent [] s
        else answered tag (.reserveNeedle x y) .done ([e.state.code] ++ be1 e.breaks)
          { s with needles := { s.needles with reservation := some (l, n) } })
      ∧ exec (.restoreNeedle tag x y) s = .next (
        if e.state = .absent then
          answered tag (.restoreNeedle x y) .absent [] { s with needles := { s.needles with reservation := none } }
        else if e.state = .engaged then
          answered tag (.restoreNeedle x y) .done [] { s with needles := { s.needles with reservation := none } }
        else if s.needles.reservation ≠ some (l, n) then
          answered tag (.restoreNeedle x y) .lost [] { s with needles := { s.needles with reservation := none } }
        else answered tag (.restoreNeedle x y) .done []
          { s with needles := { s.needles with entries := put .engaged, reservation := none } })
      ∧ exec (.lockNeedle tag x y) s = .next (
        if e.state = .absent then answered tag (.lockNeedle x y) .absent [] s
        else answered tag (.lockNeedle x y) .done []
          { s with needles := { s.needles with
              entries := put .locked
              reservation := if s.needles.reservation = some (l, n) then none else s.needles.reservation } }))
  ∧ (∀ (tag k : Byte) (s : State), s.attentive →
      let log := s.needles.log
      exec (.readRepairs tag k) s = .next (
        if k.toNat < 1 ∨ 4 < k.toNat then answered tag (.readRepairs k) .range [] s
        else if log = [] then answered tag (.readRepairs k) .empty [] s
        else answered tag (.readRepairs k) (if k.toNat ≤ log.length then .done else .clamped)
          (be1 log.length ++ be1 (min k.toNat log.length) ++ (log.take k.toNat).flatMap Repair.bytes) s)
      ∧ exec (.retireRepairs tag k) s = .next (
        answered tag (.retireRepairs k) (if k.toNat ≤ log.length then .done else .clamped)
          (be1 (min k.toNat log.length) ++ be1 (log.length - k.toNat))
          { s with needles := { s.needles with log := log.drop k.toNat } }))

/-- FEED_REPORT takes the oldest feed report in flight: while the tally is RUNNING it adds the feed to the fed length, 20 steps to a
millimetre and 1000 millimetres to a metre, carried together, the metre count modulo 65536; while STOPPED it only leaves the reports in
flight (R150, R153). Where the report changes the metre count, METRES or BOTH is selected and every selected count then stands at its value,
MARK is set, and with action PAUSE pause-pending; otherwise neither changes (R156, R157). A panel completion while the tally is RUNNING,
with PANELS or BOTH selected and every selected count at its value once the panel is counted, sets MARK, and with action PAUSE pauses that
very completion with cause MARK, or, where the Sequencer is PAUSED already, sets pause-pending for the first completion after RUN (R37,
R152, R156, R157, R158; that a completion is taken while PAUSED is log 4). Requests that find every feed counted find what FEED_REPORT makes
of each report in turn (log 3). -/
def Obligations.FeedReportsAndMarks : Prop :=
  (∀ (s : State) (f : Nat) (rest : List Nat), s.reports.feeds = f :: rest →
      (s.tally.run = false → exec .feedReport s = .next { s with reports := { s.reports with feeds := rest } })
      ∧ (s.tally.run = true → s.tally.steps < 20 → s.tally.mm < 1000 → f ≤ 400 →
        ∃ t : Tally, t = { s.tally with steps := t.steps, mm := t.mm, metres := t.metres }
          ∧ t.steps < 20 ∧ t.mm < 1000
          ∧ t.metres.toNat * 20000 + t.mm * 20 + t.steps
              = (s.tally.metres.toNat * 20000 + s.tally.mm * 20 + s.tally.steps + f) % (65536 * 20000)
          ∧ let reached := t.metres ≠ s.tally.metres ∧ t.metres = t.metreValue
              ∧ (t.selection = .metres ∨ (t.selection = .both ∧ t.panels = t.panelValue))
            exec .feedReport s = .next
              { s with
                tally := t
                reports := { s.reports with feeds := rest }
                flags := if reached then s.flags ||| Flag.mark.mask else s.flags
                seq := if reached ∧ t.action = .pause then { s.seq with pausePending := true } else s.seq }))
  ∧ (∀ s : State, (s.reports.feeds = [] → exec .feedReport s = .next s ∧ takeFeeds s = s)
      ∧ ∀ t, s.reports.feeds ≠ [] → exec .feedReport s = .next t → takeFeeds s = takeFeeds t)
  ∧ ∀ (s : State) (ctx : Context) (r : SeqReport), s.seq.current = some ctx → s.seq.phase = .panel .trimOut →
      s.reports.sequencer = some r → s.tally.run = true →
      let n := s.tally.panels + 1
      let reached := n = s.tally.panelValue
        ∧ (s.tally.selection = .panels ∨ (s.tally.selection = .both ∧ s.tally.metres = s.tally.metreValue))
      (s.seq.state = .running → s.seq.prefetch = .none → s.seq.lvi = s.seq.ci → s.seq.pausePending = false →
        ctx.desc.pauseAfter = false →
        ∃ t, exec .phaseEnd s = .next t ∧ t.tally = { s.tally with panels := n } ∧ t.seq.pausePending = false
          ∧ t.hasFlag .mark = (s.hasFlag .mark || decide reached)
          ∧ (reached ∧ s.tally.action = .pause → t.seq.state = .paused ∧ t.seq.cause = .mark)
          ∧ (¬ (reached ∧ s.tally.action = .pause) → t.seq.state = .drained ∧ t.seq.cause = .none))
      ∧ (s.seq.state = .paused →
        ∃ t, exec .phaseEnd s = .next t ∧ t.tally = { s.tally with panels := n }
          ∧ t.hasFlag .mark = (s.hasFlag .mark || decide reached)
          ∧ t.seq = { s.seq with
              current := none, ciStatus := .completed, phase := .none
              pausePending := s.seq.pausePending || decide (reached ∧ s.tally.action = .pause) })

/-- TALLY_CONTROL sets the run state, and zeroes the counts exactly where reset is asked of a tally that was STOPPED and stays STOPPED; the
run state before it judges the feed of every earlier send point, whose reports still in flight are taken before the request: R151 lets them
be taken on either side of it, and this order is the model's choice (log 3) (R154, R181). SET_MARK replaces the four settings together, and
is RANGE for a selection above 3 or an action above 1 (R159). -/
def Obligations.TallyRequests : Prop :=
  ∀ (tag bits selection action : Byte) (mv pv : Half) (s : State), s.attentive →
    let v := takeFeeds s
    let t := v.tally
    let run := bits.getLsbD 0
    let zero := bits.getLsbD 1 && !t.run && !run
    let u : Tally := if zero then { t with steps := 0, mm := 0, metres := 0, panels := 0, run := run } else { t with run := run }
    exec (.tallyControl tag bits) s = .next (
      answered tag (.tallyControl bits) .done
        (boolBytes run ++ [if bits.getLsbD 1 then (if zero then 1 else 2) else 0] ++ be1 u.steps ++ be2 u.mm ++ halfBytes u.metres
          ++ halfBytes u.panels)
        { v with tally := u })
    ∧ ((4 ≤ selection.toNat ∨ 2 ≤ action.toNat) → exec (.setMark tag selection mv pv action) s
        = .next (answered tag (.setMark selection mv pv action) .range [] s))
    ∧ ∀ (m : MarkSelection) (a : MarkAction), selection = m.code → action = a.code →
        exec (.setMark tag selection mv pv action) s = .next (
          answered tag (.setMark selection mv pv action) .done ([selection] ++ halfBytes mv ++ halfBytes pv ++ [action])
            { s with tally := { s.tally with selection := m, metreValue := mv, panelValue := pv, action := a } })

/-! ### Modes -/

/-- SET_MODE is RANGE for a mode above 2, STATE unless STOPPED, DONE without change for the mode held; otherwise the mode
changes and the link enters OFF with the awake mask cleared (R121, R174). A change into ECHO is answered first, then the mode changes and
the requests behind it are removed unexecuted and unanswered, here behind a READ_SEGMENTS that ends with its last access (R17, R166, R174).
In ECHO the frame is echoed first and the reply follows (R175). In ECHO every other good MGMT frame is echoed and dropped: no request but
SET_MODE executes or is answered (R165, R175). That the feed reports in flight are counted before the mode changes is the model's choice
(log 3). -/
def Obligations.ModesAndEcho : Prop :=
  (∀ (tag b : Byte) (s : State) (m : Mode), b = m.code →
      let v := takeFeeds s
      let new := { v with line := { s.line with mode := m }, link := { s.link with state := .off, awake := 0 } }
      (s.attentive → s.seq.state ≠ .stopped → exec (.setMode tag b) s = .next (answered tag (.setMode b) .state [] s))
      ∧ (s.attentive → s.seq.state = .stopped → exec (.setMode tag b) s = .next (
          answered tag (.setMode b) .done [] (if m = s.line.mode then s else new)))
      ∧ (s.attentive → ∀ c : Byte, 3 ≤ c.toNat → exec (.setMode tag c) s = .next (answered tag (.setMode c) .range [] s))
      ∧ (s.line.mode = .echo → s.line.receiver = .hunting → s.line.waiting.length < 10 → s.seq.state = .stopped →
          exec (.setMode tag b) s = .next (
            answered tag (.setMode b) .done []
              (produce (.echo (frameBytes typeMgmt [tag, 135, b])) (if m = .echo then s else new)))))
  ∧ (∀ (tag code : Byte) (args : List Byte) (s : State), s.line.mode = .echo → s.line.receiver = .hunting →
      s.line.waiting.length < 10 → args.length ≤ 253 → ¬ (code = 135 ∧ args.length = 1) →
      exec (.mgmtFrame tag code args) s
        = .next (produce (.echo (frameBytes typeMgmt (tag :: code :: args))) s))
  ∧ ∀ (s : State) (e : Entry) (tag : Byte) (rest : List Entry) (n : PatternId) (next : Nat) (got : List Segment) (short : Bool)
      (addr : Nat) (cancelled : Bool), s.mgmt = ⟨e :: ⟨tag, .setMode 1⟩ :: rest, some (.read n next 1 got short)⟩ →
      s.store.inFlight = some ⟨mgmtRequester, addr, cancelled⟩ → s.seq.state = .stopped → s.line.mode ≠ .echo →
      exec .managementAccessCompletion s = .next (
        answered tag (.setMode 1) .done []
          (answered e.tag e.req (if short then .clamped else .done)
            ((got ++ [memRead s.store.mem addr]).flatMap storedBytes ++ be1 (got.length + 1))
            { takeFeeds s with
              store := { s.store with inFlight := none }.grant
              mgmt := ⟨[], none⟩
              line := { s.line with mode := .echo }
              link := { s.link with state := .off, awake := 0 } }))

/-! ### Invariants of every step -/

/-- Pattern memory keeps its canonical form (the form is the model's, log 29). -/
def Obligations.MemoryStaysCanonical : Prop :=
  ∀ s t : State, Memory.wf s → step s = .next t → Memory.wf t

/-- Every page stays free or in exactly one pattern's page list, and a pattern has pages exactly when it is not EMPTY (R1, R3, R5). -/
def Obligations.PagesStayPartitioned : Prop :=
  ∀ s t : State, s.store.pagesSound → step s = .next t → t.store.pagesSound

/-- The management queue stays within four requests and the return direction within sixteen waiting frames (R166, R167). -/
def Obligations.ReturnDirectionStaysBounded : Prop :=
  ∀ s t : State, s.returnSound → step s = .next t → t.returnSound

/-- Whenever the Sequencer is RUNNING, the head link is ACTIVE (R121). -/
def Obligations.RunningKeepsLinkActive : Prop :=
  ∀ s t : State, s.linkSound → step s = .next t → t.linkSound

/-- In ECHO the Sequencer stays STOPPED, the link OFF, the queue empty and no feed report in flight, so the counts stand still (R127, R160,
R174, R175); that the feed reports in flight are counted before the mode changes is the model's choice (log 3). -/
def Obligations.EchoStaysAtRest : Prop :=
  ∀ s t : State, s.echoSound → step s = .next t → t.echoSound

/-- The config, compensation, interlock and speed band tables stay in their ranges, Fgap between 1 and Fmax at every moment
(R90, R93, R171, R173). The wake count, miss counts, query marker, fed-length counts, dwell run, history and repair log stay in
their ranges (R40, R112, R118, R124, R138, R150). -/
def Obligations.TablesAndCountersStayInRange : Prop :=
  (∀ s t : State, s.tablesSound → step s = .next t → t.tablesSound)
  ∧ (∀ s t : State, s.countersSound → step s = .next t → t.countersSound)

/-- Power-on reset meets every invariant stated of the steps. -/
def Obligations.ResetMeetsInvariants : Prop :=
  Memory.wf State.reset ∧ State.reset.store.pagesSound ∧ State.reset.returnSound ∧ State.reset.linkSound
    ∧ State.reset.echoSound ∧ State.reset.tablesSound ∧ State.reset.countersSound
end

