-- ==== Sys2Proof/Laws/State.lean ====
section
/-!
SUPPORT. One lemma for each field of State under each named update: what the update writes and what it leaves.
-/

namespace Sys2Proof.Machine

variable (s : State)

/-! ### setFlag -/

@[simp] theorem setFlag_line (f : Flag) : (setFlag f s).line = s.line := rfl
@[simp] theorem setFlag_mgmt (f : Flag) : (setFlag f s).mgmt = s.mgmt := rfl
@[simp] theorem setFlag_store (f : Flag) : (setFlag f s).store = s.store := rfl
@[simp] theorem setFlag_seq (f : Flag) : (setFlag f s).seq = s.seq := rfl
@[simp] theorem setFlag_lanes (f : Flag) : (setFlag f s).lanes = s.lanes := rfl
@[simp] theorem setFlag_needleSets (f : Flag) : (setFlag f s).needleSets = s.needleSets := rfl
@[simp] theorem setFlag_interlock (f : Flag) : (setFlag f s).interlock = s.interlock := rfl
@[simp] theorem setFlag_asm (f : Flag) : (setFlag f s).asm = s.asm := rfl
@[simp] theorem setFlag_link (f : Flag) : (setFlag f s).link = s.link := rfl
@[simp] theorem setFlag_needles (f : Flag) : (setFlag f s).needles = s.needles := rfl
@[simp] theorem setFlag_tally (f : Flag) : (setFlag f s).tally = s.tally := rfl
@[simp] theorem setFlag_flags (f : Flag) : (setFlag f s).flags = s.flags ||| f.mask := rfl
@[simp] theorem setFlag_notice (f : Flag) : (setFlag f s).notice = s.notice := rfl
@[simp] theorem setFlag_config (f : Flag) : (setFlag f s).config = s.config := rfl
@[simp] theorem setFlag_comp (f : Flag) : (setFlag f s).comp = s.comp := rfl
@[simp] theorem setFlag_reports (f : Flag) : (setFlag f s).reports = s.reports := rfl
@[simp] theorem setFlag_pending (f : Flag) : (setFlag f s).pending = s.pending := rfl

/-! ### produce -/

@[simp] theorem produce_line (f : ReturnFrame) : (produce f s).line = s.line.produce f := rfl
@[simp] theorem produce_mgmt (f : ReturnFrame) : (produce f s).mgmt = s.mgmt := rfl
@[simp] theorem produce_store (f : ReturnFrame) : (produce f s).store = s.store := rfl
@[simp] theorem produce_seq (f : ReturnFrame) : (produce f s).seq = s.seq := rfl
@[simp] theorem produce_lanes (f : ReturnFrame) : (produce f s).lanes = s.lanes := rfl
@[simp] theorem produce_needleSets (f : ReturnFrame) : (produce f s).needleSets = s.needleSets := rfl
@[simp] theorem produce_interlock (f : ReturnFrame) : (produce f s).interlock = s.interlock := rfl
@[simp] theorem produce_asm (f : ReturnFrame) : (produce f s).asm = s.asm := rfl
@[simp] theorem produce_link (f : ReturnFrame) : (produce f s).link = s.link := rfl
@[simp] theorem produce_needles (f : ReturnFrame) : (produce f s).needles = s.needles := rfl
@[simp] theorem produce_tally (f : ReturnFrame) : (produce f s).tally = s.tally := rfl
@[simp] theorem produce_flags (f : ReturnFrame) : (produce f s).flags = s.flags := rfl
@[simp] theorem produce_notice (f : ReturnFrame) : (produce f s).notice = s.notice := rfl
@[simp] theorem produce_config (f : ReturnFrame) : (produce f s).config = s.config := rfl
@[simp] theorem produce_comp (f : ReturnFrame) : (produce f s).comp = s.comp := rfl
@[simp] theorem produce_reports (f : ReturnFrame) : (produce f s).reports = s.reports := rfl
@[simp] theorem produce_pending (f : ReturnFrame) : (produce f s).pending = s.pending := rfl

/-! ### reply -/

@[simp] theorem reply_line (tag code : Byte) (a : Answer) : (reply tag code a s).line = s.line.produce (.reply tag code a.result a.data) := rfl
@[simp] theorem reply_mgmt (tag code : Byte) (a : Answer) : (reply tag code a s).mgmt = s.mgmt := rfl
@[simp] theorem reply_store (tag code : Byte) (a : Answer) : (reply tag code a s).store = s.store := rfl
@[simp] theorem reply_seq (tag code : Byte) (a : Answer) : (reply tag code a s).seq = s.seq := rfl
@[simp] theorem reply_lanes (tag code : Byte) (a : Answer) : (reply tag code a s).lanes = s.lanes := rfl
@[simp] theorem reply_needleSets (tag code : Byte) (a : Answer) : (reply tag code a s).needleSets = s.needleSets := rfl
@[simp] theorem reply_interlock (tag code : Byte) (a : Answer) : (reply tag code a s).interlock = s.interlock := rfl
@[simp] theorem reply_asm (tag code : Byte) (a : Answer) : (reply tag code a s).asm = s.asm := rfl
@[simp] theorem reply_link (tag code : Byte) (a : Answer) : (reply tag code a s).link = s.link := rfl
@[simp] theorem reply_needles (tag code : Byte) (a : Answer) : (reply tag code a s).needles = s.needles := rfl
@[simp] theorem reply_tally (tag code : Byte) (a : Answer) : (reply tag code a s).tally = s.tally := rfl
@[simp] theorem reply_flags (tag code : Byte) (a : Answer) : (reply tag code a s).flags = s.flags := rfl
@[simp] theorem reply_notice (tag code : Byte) (a : Answer) : (reply tag code a s).notice = s.notice := rfl
@[simp] theorem reply_config (tag code : Byte) (a : Answer) : (reply tag code a s).config = s.config := rfl
@[simp] theorem reply_comp (tag code : Byte) (a : Answer) : (reply tag code a s).comp = s.comp := rfl
@[simp] theorem reply_reports (tag code : Byte) (a : Answer) : (reply tag code a s).reports = s.reports := rfl
@[simp] theorem reply_pending (tag code : Byte) (a : Answer) : (reply tag code a s).pending = s.pending := rfl

/-! ### pauseRequest -/

@[simp] theorem pauseRequest_line (c : Cause) : (pauseRequest c s).line = s.line := rfl
@[simp] theorem pauseRequest_mgmt (c : Cause) : (pauseRequest c s).mgmt = s.mgmt := rfl
@[simp] theorem pauseRequest_store (c : Cause) : (pauseRequest c s).store = s.store := rfl
@[simp] theorem pauseRequest_seq (c : Cause) : (pauseRequest c s).seq = s.seq.pauseRequest c := rfl
@[simp] theorem pauseRequest_lanes (c : Cause) : (pauseRequest c s).lanes = s.lanes := rfl
@[simp] theorem pauseRequest_needleSets (c : Cause) : (pauseRequest c s).needleSets = s.needleSets := rfl
@[simp] theorem pauseRequest_interlock (c : Cause) : (pauseRequest c s).interlock = s.interlock := rfl
@[simp] theorem pauseRequest_asm (c : Cause) : (pauseRequest c s).asm = s.asm := rfl
@[simp] theorem pauseRequest_link (c : Cause) : (pauseRequest c s).link = s.link := rfl
@[simp] theorem pauseRequest_needles (c : Cause) : (pauseRequest c s).needles = s.needles := rfl
@[simp] theorem pauseRequest_tally (c : Cause) : (pauseRequest c s).tally = s.tally := rfl
@[simp] theorem pauseRequest_flags (c : Cause) : (pauseRequest c s).flags = s.flags := rfl
@[simp] theorem pauseRequest_notice (c : Cause) : (pauseRequest c s).notice = s.notice := rfl
@[simp] theorem pauseRequest_config (c : Cause) : (pauseRequest c s).config = s.config := rfl
@[simp] theorem pauseRequest_comp (c : Cause) : (pauseRequest c s).comp = s.comp := rfl
@[simp] theorem pauseRequest_reports (c : Cause) : (pauseRequest c s).reports = s.reports := rfl
@[simp] theorem pauseRequest_pending (c : Cause) : (pauseRequest c s).pending = s.pending := rfl

/-! ### setLane -/

@[simp] theorem setLane_line (l : LaneId) (ln : Lane) : (setLane l ln s).line = s.line := rfl
@[simp] theorem setLane_mgmt (l : LaneId) (ln : Lane) : (setLane l ln s).mgmt = s.mgmt := rfl
@[simp] theorem setLane_store (l : LaneId) (ln : Lane) : (setLane l ln s).store = s.store := rfl
@[simp] theorem setLane_seq (l : LaneId) (ln : Lane) : (setLane l ln s).seq = s.seq := rfl
@[simp] theorem setLane_lanes (l : LaneId) (ln : Lane) : (setLane l ln s).lanes = s.lanes.set l ln := rfl
@[simp] theorem setLane_needleSets (l : LaneId) (ln : Lane) : (setLane l ln s).needleSets = s.needleSets := rfl
@[simp] theorem setLane_interlock (l : LaneId) (ln : Lane) : (setLane l ln s).interlock = s.interlock := rfl
@[simp] theorem setLane_asm (l : LaneId) (ln : Lane) : (setLane l ln s).asm = s.asm := rfl
@[simp] theorem setLane_link (l : LaneId) (ln : Lane) : (setLane l ln s).link = s.link := rfl
@[simp] theorem setLane_needles (l : LaneId) (ln : Lane) : (setLane l ln s).needles = s.needles := rfl
@[simp] theorem setLane_tally (l : LaneId) (ln : Lane) : (setLane l ln s).tally = s.tally := rfl
@[simp] theorem setLane_flags (l : LaneId) (ln : Lane) : (setLane l ln s).flags = s.flags := rfl
@[simp] theorem setLane_notice (l : LaneId) (ln : Lane) : (setLane l ln s).notice = s.notice := rfl
@[simp] theorem setLane_config (l : LaneId) (ln : Lane) : (setLane l ln s).config = s.config := rfl
@[simp] theorem setLane_comp (l : LaneId) (ln : Lane) : (setLane l ln s).comp = s.comp := rfl
@[simp] theorem setLane_reports (l : LaneId) (ln : Lane) : (setLane l ln s).reports = s.reports := rfl
@[simp] theorem setLane_pending (l : LaneId) (ln : Lane) : (setLane l ln s).pending = s.pending := rfl

/-! ### onLane -/

@[simp] theorem onLane_line (l : LaneId) (f : Lane → Lane) : (onLane l f s).line = s.line := rfl
@[simp] theorem onLane_mgmt (l : LaneId) (f : Lane → Lane) : (onLane l f s).mgmt = s.mgmt := rfl
@[simp] theorem onLane_store (l : LaneId) (f : Lane → Lane) : (onLane l f s).store = s.store := rfl
@[simp] theorem onLane_seq (l : LaneId) (f : Lane → Lane) : (onLane l f s).seq = s.seq := rfl
@[simp] theorem onLane_lanes (l : LaneId) (f : Lane → Lane) : (onLane l f s).lanes = s.lanes.set l (f s.lanes[l]) := rfl
@[simp] theorem onLane_needleSets (l : LaneId) (f : Lane → Lane) : (onLane l f s).needleSets = s.needleSets := rfl
@[simp] theorem onLane_interlock (l : LaneId) (f : Lane → Lane) : (onLane l f s).interlock = s.interlock := rfl
@[simp] theorem onLane_asm (l : LaneId) (f : Lane → Lane) : (onLane l f s).asm = s.asm := rfl
@[simp] theorem onLane_link (l : LaneId) (f : Lane → Lane) : (onLane l f s).link = s.link := rfl
@[simp] theorem onLane_needles (l : LaneId) (f : Lane → Lane) : (onLane l f s).needles = s.needles := rfl
@[simp] theorem onLane_tally (l : LaneId) (f : Lane → Lane) : (onLane l f s).tally = s.tally := rfl
@[simp] theorem onLane_flags (l : LaneId) (f : Lane → Lane) : (onLane l f s).flags = s.flags := rfl
@[simp] theorem onLane_notice (l : LaneId) (f : Lane → Lane) : (onLane l f s).notice = s.notice := rfl
@[simp] theorem onLane_config (l : LaneId) (f : Lane → Lane) : (onLane l f s).config = s.config := rfl
@[simp] theorem onLane_comp (l : LaneId) (f : Lane → Lane) : (onLane l f s).comp = s.comp := rfl
@[simp] theorem onLane_reports (l : LaneId) (f : Lane → Lane) : (onLane l f s).reports = s.reports := rfl
@[simp] theorem onLane_pending (l : LaneId) (f : Lane → Lane) : (onLane l f s).pending = s.pending := rfl

/-! ### setConsumption -/

@[simp] theorem setConsumption_line (l : LaneId) (c : Consumption) : (setConsumption l c s).line = s.line := rfl
@[simp] theorem setConsumption_mgmt (l : LaneId) (c : Consumption) : (setConsumption l c s).mgmt = s.mgmt := rfl
@[simp] theorem setConsumption_store (l : LaneId) (c : Consumption) : (setConsumption l c s).store = s.store := rfl
@[simp] theorem setConsumption_seq (l : LaneId) (c : Consumption) : (setConsumption l c s).seq = s.seq := rfl
@[simp] theorem setConsumption_lanes (l : LaneId) (c : Consumption) : (setConsumption l c s).lanes = s.lanes := rfl
@[simp] theorem setConsumption_needleSets (l : LaneId) (c : Consumption) : (setConsumption l c s).needleSets = s.needleSets := rfl
@[simp] theorem setConsumption_interlock (l : LaneId) (c : Consumption) : (setConsumption l c s).interlock = s.interlock := rfl
@[simp] theorem setConsumption_asm (l : LaneId) (c : Consumption) : (setConsumption l c s).asm = s.asm := rfl
@[simp] theorem setConsumption_link (l : LaneId) (c : Consumption) : (setConsumption l c s).link = s.link := rfl
@[simp] theorem setConsumption_needles (l : LaneId) (c : Consumption) : (setConsumption l c s).needles = s.needles := rfl
@[simp] theorem setConsumption_tally (l : LaneId) (c : Consumption) : (setConsumption l c s).tally = s.tally := rfl
@[simp] theorem setConsumption_flags (l : LaneId) (c : Consumption) : (setConsumption l c s).flags = s.flags := rfl
@[simp] theorem setConsumption_notice (l : LaneId) (c : Consumption) : (setConsumption l c s).notice = s.notice := rfl
@[simp] theorem setConsumption_config (l : LaneId) (c : Consumption) : (setConsumption l c s).config = s.config := rfl
@[simp] theorem setConsumption_comp (l : LaneId) (c : Consumption) : (setConsumption l c s).comp = s.comp := rfl
@[simp] theorem setConsumption_reports (l : LaneId) (c : Consumption) : (setConsumption l c s).reports = { s.reports with consumption := s.reports.consumption.set l c } := rfl
@[simp] theorem setConsumption_pending (l : LaneId) (c : Consumption) : (setConsumption l c s).pending = s.pending := rfl

/-! ### setNotice -/

@[simp] theorem setNotice_line (l : LaneId) (n : Option Notice) : (setNotice l n s).line = s.line := rfl
@[simp] theorem setNotice_mgmt (l : LaneId) (n : Option Notice) : (setNotice l n s).mgmt = s.mgmt := rfl
@[simp] theorem setNotice_store (l : LaneId) (n : Option Notice) : (setNotice l n s).store = s.store := rfl
@[simp] theorem setNotice_seq (l : LaneId) (n : Option Notice) : (setNotice l n s).seq = s.seq := rfl
@[simp] theorem setNotice_lanes (l : LaneId) (n : Option Notice) : (setNotice l n s).lanes = s.lanes := rfl
@[simp] theorem setNotice_needleSets (l : LaneId) (n : Option Notice) : (setNotice l n s).needleSets = s.needleSets := rfl
@[simp] theorem setNotice_interlock (l : LaneId) (n : Option Notice) : (setNotice l n s).interlock = s.interlock := rfl
@[simp] theorem setNotice_asm (l : LaneId) (n : Option Notice) : (setNotice l n s).asm = s.asm := rfl
@[simp] theorem setNotice_link (l : LaneId) (n : Option Notice) : (setNotice l n s).link = s.link := rfl
@[simp] theorem setNotice_needles (l : LaneId) (n : Option Notice) : (setNotice l n s).needles = s.needles := rfl
@[simp] theorem setNotice_tally (l : LaneId) (n : Option Notice) : (setNotice l n s).tally = s.tally := rfl
@[simp] theorem setNotice_flags (l : LaneId) (n : Option Notice) : (setNotice l n s).flags = s.flags := rfl
@[simp] theorem setNotice_notice (l : LaneId) (n : Option Notice) : (setNotice l n s).notice = s.notice := rfl
@[simp] theorem setNotice_config (l : LaneId) (n : Option Notice) : (setNotice l n s).config = s.config := rfl
@[simp] theorem setNotice_comp (l : LaneId) (n : Option Notice) : (setNotice l n s).comp = s.comp := rfl
@[simp] theorem setNotice_reports (l : LaneId) (n : Option Notice) : (setNotice l n s).reports = { s.reports with notices := s.reports.notices.set l n } := rfl
@[simp] theorem setNotice_pending (l : LaneId) (n : Option Notice) : (setNotice l n s).pending = s.pending := rfl

/-! ### placePins -/

@[simp] theorem placePins_line (d : Descriptor) : (placePins d s).line = s.line := rfl
@[simp] theorem placePins_mgmt (d : Descriptor) : (placePins d s).mgmt = s.mgmt := rfl
@[simp] theorem placePins_store (d : Descriptor) : (placePins d s).store = s.store.changeAllPins (· + 1) d := rfl
@[simp] theorem placePins_seq (d : Descriptor) : (placePins d s).seq = s.seq := rfl
@[simp] theorem placePins_lanes (d : Descriptor) : (placePins d s).lanes = s.lanes := rfl
@[simp] theorem placePins_needleSets (d : Descriptor) : (placePins d s).needleSets = s.needleSets := rfl
@[simp] theorem placePins_interlock (d : Descriptor) : (placePins d s).interlock = s.interlock := rfl
@[simp] theorem placePins_asm (d : Descriptor) : (placePins d s).asm = s.asm := rfl
@[simp] theorem placePins_link (d : Descriptor) : (placePins d s).link = s.link := rfl
@[simp] theorem placePins_needles (d : Descriptor) : (placePins d s).needles = s.needles := rfl
@[simp] theorem placePins_tally (d : Descriptor) : (placePins d s).tally = s.tally := rfl
@[simp] theorem placePins_flags (d : Descriptor) : (placePins d s).flags = s.flags := rfl
@[simp] theorem placePins_notice (d : Descriptor) : (placePins d s).notice = s.notice := rfl
@[simp] theorem placePins_config (d : Descriptor) : (placePins d s).config = s.config := rfl
@[simp] theorem placePins_comp (d : Descriptor) : (placePins d s).comp = s.comp := rfl
@[simp] theorem placePins_reports (d : Descriptor) : (placePins d s).reports = s.reports := rfl
@[simp] theorem placePins_pending (d : Descriptor) : (placePins d s).pending = s.pending := rfl

/-! ### releasePins -/

@[simp] theorem releasePins_line (d : Descriptor) : (releasePins d s).line = s.line := rfl
@[simp] theorem releasePins_mgmt (d : Descriptor) : (releasePins d s).mgmt = s.mgmt := rfl
@[simp] theorem releasePins_store (d : Descriptor) : (releasePins d s).store = s.store.changeAllPins (· - 1) d := rfl
@[simp] theorem releasePins_seq (d : Descriptor) : (releasePins d s).seq = s.seq := rfl
@[simp] theorem releasePins_lanes (d : Descriptor) : (releasePins d s).lanes = s.lanes := rfl
@[simp] theorem releasePins_needleSets (d : Descriptor) : (releasePins d s).needleSets = s.needleSets := rfl
@[simp] theorem releasePins_interlock (d : Descriptor) : (releasePins d s).interlock = s.interlock := rfl
@[simp] theorem releasePins_asm (d : Descriptor) : (releasePins d s).asm = s.asm := rfl
@[simp] theorem releasePins_link (d : Descriptor) : (releasePins d s).link = s.link := rfl
@[simp] theorem releasePins_needles (d : Descriptor) : (releasePins d s).needles = s.needles := rfl
@[simp] theorem releasePins_tally (d : Descriptor) : (releasePins d s).tally = s.tally := rfl
@[simp] theorem releasePins_flags (d : Descriptor) : (releasePins d s).flags = s.flags := rfl
@[simp] theorem releasePins_notice (d : Descriptor) : (releasePins d s).notice = s.notice := rfl
@[simp] theorem releasePins_config (d : Descriptor) : (releasePins d s).config = s.config := rfl
@[simp] theorem releasePins_comp (d : Descriptor) : (releasePins d s).comp = s.comp := rfl
@[simp] theorem releasePins_reports (d : Descriptor) : (releasePins d s).reports = s.reports := rfl
@[simp] theorem releasePins_pending (d : Descriptor) : (releasePins d s).pending = s.pending := rfl

/-! ### recordBand -/

@[simp] theorem recordBand_line (v : Nat) : (recordBand v s).line = s.line := rfl
@[simp] theorem recordBand_mgmt (v : Nat) : (recordBand v s).mgmt = s.mgmt := rfl
@[simp] theorem recordBand_store (v : Nat) : (recordBand v s).store = s.store := rfl
@[simp] theorem recordBand_seq (v : Nat) : (recordBand v s).seq = s.seq := rfl
@[simp] theorem recordBand_lanes (v : Nat) : (recordBand v s).lanes = s.lanes := rfl
@[simp] theorem recordBand_needleSets (v : Nat) : (recordBand v s).needleSets = s.needleSets := rfl
@[simp] theorem recordBand_interlock (v : Nat) : (recordBand v s).interlock = s.interlock := rfl
@[simp] theorem recordBand_asm (v : Nat) : (recordBand v s).asm = { s.asm with selection := some ⟨v, selectBand s.asm.bands v⟩ } := rfl
@[simp] theorem recordBand_link (v : Nat) : (recordBand v s).link = s.link := rfl
@[simp] theorem recordBand_needles (v : Nat) : (recordBand v s).needles = s.needles := rfl
@[simp] theorem recordBand_tally (v : Nat) : (recordBand v s).tally = s.tally := rfl
@[simp] theorem recordBand_flags (v : Nat) : (recordBand v s).flags = s.flags := rfl
@[simp] theorem recordBand_notice (v : Nat) : (recordBand v s).notice = s.notice := rfl
@[simp] theorem recordBand_config (v : Nat) : (recordBand v s).config = s.config := rfl
@[simp] theorem recordBand_comp (v : Nat) : (recordBand v s).comp = s.comp := rfl
@[simp] theorem recordBand_reports (v : Nat) : (recordBand v s).reports = s.reports := rfl
@[simp] theorem recordBand_pending (v : Nat) : (recordBand v s).pending = s.pending := rfl

/-! ### writeHistory -/

@[simp] theorem writeHistory_line (f : HeadFrame) : (writeHistory f s).line = s.line := rfl
@[simp] theorem writeHistory_mgmt (f : HeadFrame) : (writeHistory f s).mgmt = s.mgmt := rfl
@[simp] theorem writeHistory_store (f : HeadFrame) : (writeHistory f s).store = s.store := rfl
@[simp] theorem writeHistory_seq (f : HeadFrame) : (writeHistory f s).seq = s.seq := rfl
@[simp] theorem writeHistory_lanes (f : HeadFrame) : (writeHistory f s).lanes = s.lanes := rfl
@[simp] theorem writeHistory_needleSets (f : HeadFrame) : (writeHistory f s).needleSets = s.needleSets := rfl
@[simp] theorem writeHistory_interlock (f : HeadFrame) : (writeHistory f s).interlock = s.interlock := rfl
@[simp] theorem writeHistory_asm (f : HeadFrame) : (writeHistory f s).asm = { s.asm with history := (s.historyEntry f :: s.asm.history).take 8 } := rfl
@[simp] theorem writeHistory_link (f : HeadFrame) : (writeHistory f s).link = s.link := rfl
@[simp] theorem writeHistory_needles (f : HeadFrame) : (writeHistory f s).needles = s.needles := rfl
@[simp] theorem writeHistory_tally (f : HeadFrame) : (writeHistory f s).tally = s.tally := rfl
@[simp] theorem writeHistory_flags (f : HeadFrame) : (writeHistory f s).flags = s.flags := rfl
@[simp] theorem writeHistory_notice (f : HeadFrame) : (writeHistory f s).notice = s.notice := rfl
@[simp] theorem writeHistory_config (f : HeadFrame) : (writeHistory f s).config = s.config := rfl
@[simp] theorem writeHistory_comp (f : HeadFrame) : (writeHistory f s).comp = s.comp := rfl
@[simp] theorem writeHistory_reports (f : HeadFrame) : (writeHistory f s).reports = s.reports := rfl
@[simp] theorem writeHistory_pending (f : HeadFrame) : (writeHistory f s).pending = s.pending := rfl

/-! ### putReports -/

@[simp] theorem putReports_line (v : Nat) : (putReports v s).line = s.line := rfl
@[simp] theorem putReports_mgmt (v : Nat) : (putReports v s).mgmt = s.mgmt := rfl
@[simp] theorem putReports_store (v : Nat) : (putReports v s).store = s.store := rfl
@[simp] theorem putReports_seq (v : Nat) : (putReports v s).seq = s.seq := rfl
@[simp] theorem putReports_lanes (v : Nat) : (putReports v s).lanes = s.lanes := rfl
@[simp] theorem putReports_needleSets (v : Nat) : (putReports v s).needleSets = s.needleSets := rfl
@[simp] theorem putReports_interlock (v : Nat) : (putReports v s).interlock = s.interlock := rfl
@[simp] theorem putReports_asm (v : Nat) : (putReports v s).asm = s.asm := rfl
@[simp] theorem putReports_link (v : Nat) : (putReports v s).link = s.link := rfl
@[simp] theorem putReports_needles (v : Nat) : (putReports v s).needles = s.needles := rfl
@[simp] theorem putReports_tally (v : Nat) : (putReports v s).tally = s.tally := rfl
@[simp] theorem putReports_flags (v : Nat) : (putReports v s).flags = s.flags := rfl
@[simp] theorem putReports_notice (v : Nat) : (putReports v s).notice = s.notice := rfl
@[simp] theorem putReports_config (v : Nat) : (putReports v s).config = s.config := rfl
@[simp] theorem putReports_comp (v : Nat) : (putReports v s).comp = s.comp := rfl
@[simp] theorem putReports_reports (v : Nat) : (putReports v s).reports = { s.reports with
      consumption := Vector.ofFn (fun l => if s.fitted l then .due else s.reports.consumption[l])
      sequencer := some s.seqReport
      feeds := s.reports.feeds ++ [v] } := rfl
@[simp] theorem putReports_pending (v : Nat) : (putReports v s).pending = s.pending := rfl

/-! ### setReceiver -/

@[simp] theorem setReceiver_line (r : Receiver) : (setReceiver r s).line = { s.line with receiver := r } := rfl
@[simp] theorem setReceiver_mgmt (r : Receiver) : (setReceiver r s).mgmt = s.mgmt := rfl
@[simp] theorem setReceiver_store (r : Receiver) : (setReceiver r s).store = s.store := rfl
@[simp] theorem setReceiver_seq (r : Receiver) : (setReceiver r s).seq = s.seq := rfl
@[simp] theorem setReceiver_lanes (r : Receiver) : (setReceiver r s).lanes = s.lanes := rfl
@[simp] theorem setReceiver_needleSets (r : Receiver) : (setReceiver r s).needleSets = s.needleSets := rfl
@[simp] theorem setReceiver_interlock (r : Receiver) : (setReceiver r s).interlock = s.interlock := rfl
@[simp] theorem setReceiver_asm (r : Receiver) : (setReceiver r s).asm = s.asm := rfl
@[simp] theorem setReceiver_link (r : Receiver) : (setReceiver r s).link = s.link := rfl
@[simp] theorem setReceiver_needles (r : Receiver) : (setReceiver r s).needles = s.needles := rfl
@[simp] theorem setReceiver_tally (r : Receiver) : (setReceiver r s).tally = s.tally := rfl
@[simp] theorem setReceiver_flags (r : Receiver) : (setReceiver r s).flags = s.flags := rfl
@[simp] theorem setReceiver_notice (r : Receiver) : (setReceiver r s).notice = s.notice := rfl
@[simp] theorem setReceiver_config (r : Receiver) : (setReceiver r s).config = s.config := rfl
@[simp] theorem setReceiver_comp (r : Receiver) : (setReceiver r s).comp = s.comp := rfl
@[simp] theorem setReceiver_reports (r : Receiver) : (setReceiver r s).reports = s.reports := rfl
@[simp] theorem setReceiver_pending (r : Receiver) : (setReceiver r s).pending = s.pending := rfl

/-! ### setHeadReceiver -/

@[simp] theorem setHeadReceiver_line (r : Receiver) : (setHeadReceiver r s).line = s.line := rfl
@[simp] theorem setHeadReceiver_mgmt (r : Receiver) : (setHeadReceiver r s).mgmt = s.mgmt := rfl
@[simp] theorem setHeadReceiver_store (r : Receiver) : (setHeadReceiver r s).store = s.store := rfl
@[simp] theorem setHeadReceiver_seq (r : Receiver) : (setHeadReceiver r s).seq = s.seq := rfl
@[simp] theorem setHeadReceiver_lanes (r : Receiver) : (setHeadReceiver r s).lanes = s.lanes := rfl
@[simp] theorem setHeadReceiver_needleSets (r : Receiver) : (setHeadReceiver r s).needleSets = s.needleSets := rfl
@[simp] theorem setHeadReceiver_interlock (r : Receiver) : (setHeadReceiver r s).interlock = s.interlock := rfl
@[simp] theorem setHeadReceiver_asm (r : Receiver) : (setHeadReceiver r s).asm = s.asm := rfl
@[simp] theorem setHeadReceiver_link (r : Receiver) : (setHeadReceiver r s).link = { s.link with receiver := r } := rfl
@[simp] theorem setHeadReceiver_needles (r : Receiver) : (setHeadReceiver r s).needles = s.needles := rfl
@[simp] theorem setHeadReceiver_tally (r : Receiver) : (setHeadReceiver r s).tally = s.tally := rfl
@[simp] theorem setHeadReceiver_flags (r : Receiver) : (setHeadReceiver r s).flags = s.flags := rfl
@[simp] theorem setHeadReceiver_notice (r : Receiver) : (setHeadReceiver r s).notice = s.notice := rfl
@[simp] theorem setHeadReceiver_config (r : Receiver) : (setHeadReceiver r s).config = s.config := rfl
@[simp] theorem setHeadReceiver_comp (r : Receiver) : (setHeadReceiver r s).comp = s.comp := rfl
@[simp] theorem setHeadReceiver_reports (r : Receiver) : (setHeadReceiver r s).reports = s.reports := rfl
@[simp] theorem setHeadReceiver_pending (r : Receiver) : (setHeadReceiver r s).pending = s.pending := rfl

/-! ### Parts of blocks -/

/-- What a produced return frame leaves of the Line Port. -/
@[simp] theorem produce_line_frame (f : ReturnFrame) (p : LinePort) :
    (p.produce f).mode = p.mode ∧ (p.produce f).receiver = p.receiver ∧ (p.produce f).lastSeq = p.lastSeq
      ∧ (p.produce f).latest = p.latest := by
  unfold LinePort.produce
  split <;> simp

/-- A produced return frame waits at most once. -/
theorem produce_waiting_le (f : ReturnFrame) (p : LinePort) : (p.produce f).waiting.length ≤ p.waiting.length + 1 := by
  unfold LinePort.produce
  split <;> simp

/-- What a pause request leaves of the Sequencer. -/
@[simp] theorem pauseRequest_seq_frame (c : Cause) (q : Sequencer) :
    (q.pauseRequest c).ring = q.ring ∧ (q.pauseRequest c).ci = q.ci ∧ (q.pauseRequest c).lvi = q.lvi
      ∧ (q.pauseRequest c).ciStatus = q.ciStatus ∧ (q.pauseRequest c).prefetch = q.prefetch
      ∧ (q.pauseRequest c).phase = q.phase ∧ (q.pauseRequest c).pausePending = q.pausePending
      ∧ (q.pauseRequest c).current = q.current ∧ (q.pauseRequest c).dwell = q.dwell
      ∧ (q.pauseRequest c).serial = q.serial ∧ (q.pauseRequest c).gapRem = q.gapRem ∧ (q.pauseRequest c).tie = q.tie
      ∧ (q.pauseRequest c).repeats = q.repeats := by
  unfold Sequencer.pauseRequest
  split <;> simp

/-- A pause request never starts the line (R25). -/
theorem pauseRequest_running {c : Cause} {q : Sequencer} : (q.pauseRequest c).state ≠ .running := by
  unfold Sequencer.pauseRequest
  split <;> simp_all

end Sys2Proof.Machine
end

