-- ==== Sys2Proof/Laws/Store.lean ====
section
/-!
SUPPORT. The Pattern Store: what the arbiter, the pin counts and the directory leave, and the canonical form of pattern memory.
-/

namespace Sys2Proof.Machine

/-! ### The arbiter and the directory leave memory and pages -/

/-- What a grant leaves. -/
@[simp] theorem grant_frame (st : PatternStore) :
    st.grant.mem = st.mem ∧ st.grant.dir = st.dir ∧ st.grant.free = st.free ∧ st.grant.layout = st.layout := by
  unfold PatternStore.grant
  split <;> simp [PatternStore.layout]

/-- What an access request leaves. -/
@[simp] theorem request_frame (who : Requester) (a : Nat) (st : PatternStore) :
    (st.request who a).mem = st.mem ∧ (st.request who a).dir = st.dir ∧ (st.request who a).free = st.free
      ∧ (st.request who a).layout = st.layout := by
  simp [PatternStore.request, PatternStore.layout]

/-- What an access completion leaves. -/
@[simp] theorem complete_frame (st : PatternStore) :
    st.complete.mem = st.mem ∧ st.complete.dir = st.dir ∧ st.complete.free = st.free ∧ st.complete.layout = st.layout := by
  simp [PatternStore.complete, PatternStore.layout]

/-- What a cancellation leaves. -/
@[simp] theorem cancel_frame (who : Requester) (st : PatternStore) :
    (st.cancel who).mem = st.mem ∧ (st.cancel who).dir = st.dir ∧ (st.cancel who).free = st.free
      ∧ (st.cancel who).layout = st.layout := by
  simp [PatternStore.cancel, PatternStore.layout]

/-- An update of directory entry `n` that keeps its state and its pages keeps the layout. -/
theorem layout_setEntry (st : PatternStore) (n : PatternId) (e : DirEntry) (hs : (e.state == .empty) = (st.dir[n].state == .empty))
    (hp : e.pages = st.dir[n].pages) : (st.setEntry n e).layout = st.layout := by
  apply Vector.ext
  intro i hi
  simp only [PatternStore.setEntry, PatternStore.layout, Vector.getElem_map, Vector.getElem_set, Fin.getElem_fin] at *
  by_cases h : n.val = i
  · subst h; simp [hs, hp]
  · simp [h]

/-- What an update of a directory entry leaves. -/
@[simp] theorem setEntry_frame (st : PatternStore) (n : PatternId) (e : DirEntry) :
    (st.setEntry n e).mem = st.mem ∧ (st.setEntry n e).free = st.free ∧ (st.setEntry n e).inFlight = st.inFlight
      ∧ (st.setEntry n e).waiting = st.waiting ∧ (st.setEntry n e).lastGrant = st.lastGrant := ⟨rfl, rfl, rfl, rfl, rfl⟩

/-- What a change of one pin count leaves. -/
@[simp] theorem changePins_frame (f : Nat → Nat) (n : PatternId) (st : PatternStore) :
    (st.changePins f n).mem = st.mem ∧ (st.changePins f n).free = st.free ∧ (st.changePins f n).inFlight = st.inFlight
      ∧ (st.changePins f n).waiting = st.waiting ∧ (st.changePins f n).lastGrant = st.lastGrant
      ∧ (st.changePins f n).layout = st.layout :=
  ⟨rfl, rfl, rfl, rfl, rfl, layout_setEntry st n _ rfl rfl⟩

/-- What the pins of a whole descriptor leave. -/
@[simp] theorem changeAllPins_frame (f : Nat → Nat) (d : Descriptor) (st : PatternStore) :
    (st.changeAllPins f d).mem = st.mem ∧ (st.changeAllPins f d).free = st.free
      ∧ (st.changeAllPins f d).inFlight = st.inFlight ∧ (st.changeAllPins f d).waiting = st.waiting
      ∧ (st.changeAllPins f d).lastGrant = st.lastGrant ∧ (st.changeAllPins f d).layout = st.layout := by
  have key : ∀ {β : Type} (g : PatternStore → β), (∀ n st, g (PatternStore.changePins f n st) = g st) →
      g (st.changeAllPins f d) = g st := by
    intro β g hg
    unfold PatternStore.changeAllPins
    induction allLanes generalizing st with
    | nil => rfl
    | cons l ls ih =>
      rw [List.foldl_cons, ih]
      split
      · exact hg _ _
      · rfl
  exact ⟨key _ (by simp), key _ (by simp), key _ (by simp), key _ (by simp), key _ (by simp), key _ (by simp)⟩

/-! ### Pattern memory -/

/-- A bound below a list of locations may be lowered. -/
theorem memAbove_mono {b c : Nat} {m : List (Nat × Segment)} (h : b ≤ c) (hm : memAbove c m = true) : memAbove b m = true := by
  induction m with
  | nil => rfl
  | cons e rest ih =>
    obtain ⟨k, g⟩ := e
    simp only [memAbove, Bool.and_eq_true, decide_eq_true_eq] at *
    exact ⟨by omega, ih hm.2⟩

/-- A write above a bound stays above it. -/
theorem memAbove_memWrite {b a : Nat} {v : Segment} {m : List (Nat × Segment)} (hm : memAbove b m = true) (ha : b < a) :
    memAbove b (memWrite m a v) = true := by
  induction m with
  | nil => simp only [memWrite]; split <;> simp [memAbove, ha]
  | cons e rest ih =>
    obtain ⟨k, g⟩ := e
    simp only [memAbove, Bool.and_eq_true, decide_eq_true_eq] at hm
    simp only [memWrite]
    split
    · split <;> simp [memAbove, hm, ha]
    · split
      · split <;> simp [memAbove, hm, ha]
      · simp [memAbove, hm.1, ih hm.2]

/-- Every write keeps the canonical form. -/
theorem memWf_memWrite {a : Nat} {v : Segment} {m : List (Nat × Segment)} (hm : memWf m = true) : memWf (memWrite m a v) = true := by
  induction m with
  | nil => simp only [memWrite]; split <;> simp [memWf, memAbove, *]
  | cons e rest ih =>
    obtain ⟨k, g⟩ := e
    simp only [memWf, Bool.and_eq_true, decide_eq_true_eq] at hm
    simp only [memWrite]
    split
    · next h =>
      split
      · simp [memWf, hm]
      · next hv => simp [memWf, memAbove, hm, hv, h, memAbove_mono (Nat.le_of_lt h) hm.1.2]
    · split
      · next h1 h2 =>
        subst h2
        split
        · exact hm.2
        · next hv => simp [memWf, hv, hm]
      · next h1 h2 => simp [memWf, hm.1.1, ih hm.2, memAbove_memWrite hm.1.2 (by omega : k < a)]

/-- A location below every listed one reads as an unlisted location. -/
theorem memRead_below {b : Nat} {m : List (Nat × Segment)} (hm : memAbove b m = true) : memRead m b = Segment.blank := by
  induction m with
  | nil => rfl
  | cons e rest ih =>
    obtain ⟨k, g⟩ := e
    simp only [memAbove, Bool.and_eq_true, decide_eq_true_eq] at hm
    simp only [memRead]
    rw [if_neg (by omega), ih hm.2]

/-- A location reads as what was written to it, and every other location as before. -/
theorem memRead_memWrite {a : Nat} {v : Segment} {m : List (Nat × Segment)} (hm : memWf m = true) (b : Nat) :
    memRead (memWrite m a v) b = if b = a then v else memRead m b := by
  induction m with
  | nil =>
    simp only [memWrite]
    split
    · next hv => simp [memRead, hv]
    · by_cases h : a = b
      · simp [memRead, h]
      · simp [memRead, h, Ne.symm h]
  | cons e rest ih =>
    obtain ⟨k, g⟩ := e
    simp only [memWf, Bool.and_eq_true, decide_eq_true_eq] at hm
    have hk := memRead_below hm.1.2
    simp only [memWrite]
    split
    · next h =>
      have ha := memRead_below (memAbove_mono (Nat.le_of_lt h) hm.1.2)
      split
      · next hv => by_cases hb : b = a <;> (simp_all [memRead]; try omega)
      · by_cases hb : a = b
        · simp [memRead, hb]
        · simp [memRead, hb, Ne.symm hb]
    · split
      · next h1 h2 =>
        subst h2
        split
        · next hv =>
          by_cases hb : a = b
          · simp [← hb, hk, hv]
          · simp [memRead, hb, Ne.symm hb]
        · by_cases hb : a = b
          · simp [memRead, hb]
          · simp [memRead, hb, Ne.symm hb]
      · next h1 h2 =>
        simp only [memRead, ih hm.2]
        by_cases hb : k = b
        · simp [hb]; omega
        · simp [hb]

/-- Pattern memory is in its canonical form after power-on reset. -/
theorem reset_memWf : Memory.wf State.reset := by decide

end Sys2Proof.Machine
end

