-- ==== Sys2Proof/Laws/FlagsFrames.lean ====
section
/-!
SUPPORT. What each operation of Machine/Flags.lean leaves as it was: one lemma for each, as rewrite rules.
-/

namespace Sys2Proof.Machine

/-- A fold keeps what each of its steps keeps. -/
theorem foldl_keeps {α β : Type} (g : State → β) (f : State → α → State) (h : ∀ s a, g (f s a) = g s) (l : List α) (s : State) :
    g (l.foldl f s) = g s := by
  induction l generalizing s with
  | nil => rfl
  | cons a l ih => rw [List.foldl_cons, ih, h]

/-- What `setFlagIf` leaves. -/
@[simp] theorem setFlagIf_frame (b : Bool) (f : Flag) (s : State) :
    (setFlagIf b f s).line = s.line ∧ (setFlagIf b f s).mgmt = s.mgmt ∧ (setFlagIf b f s).store = s.store ∧
      (setFlagIf b f s).seq = s.seq ∧ (setFlagIf b f s).lanes = s.lanes ∧ (setFlagIf b f s).needleSets = s.needleSets ∧
      (setFlagIf b f s).interlock = s.interlock ∧ (setFlagIf b f s).asm = s.asm ∧ (setFlagIf b f s).link = s.link ∧
      (setFlagIf b f s).needles = s.needles ∧ (setFlagIf b f s).tally = s.tally ∧ (setFlagIf b f s).notice = s.notice ∧
      (setFlagIf b f s).config = s.config ∧ (setFlagIf b f s).comp = s.comp ∧ (setFlagIf b f s).reports = s.reports ∧
      (setFlagIf b f s).pending = s.pending := by
  unfold setFlagIf; split <;> simp

end Sys2Proof.Machine
end

