-- ==== Sys2Proof/Laws/OpsFrames.lean ====
section
/-!
SUPPORT. What each operation of Machine/Ops.lean leaves as it was: one lemma for each, as rewrite rules.
-/

namespace Sys2Proof.Machine

/-- What `finishHead` leaves. -/
@[simp] theorem finishHead_frame (a : Answer) (s : State) :
    (finishHead a s).store = s.store ∧ (finishHead a s).seq = s.seq ∧ (finishHead a s).lanes = s.lanes ∧
      (finishHead a s).needleSets = s.needleSets ∧ (finishHead a s).interlock = s.interlock ∧ (finishHead a s).asm = s.asm ∧
      (finishHead a s).link = s.link ∧ (finishHead a s).needles = s.needles ∧ (finishHead a s).tally = s.tally ∧
      (finishHead a s).flags = s.flags ∧ (finishHead a s).notice = s.notice ∧ (finishHead a s).config = s.config ∧
      (finishHead a s).comp = s.comp ∧ (finishHead a s).reports = s.reports ∧ (finishHead a s).pending = s.pending ∧
      (finishHead a s).line.mode = s.line.mode ∧ (finishHead a s).line.receiver = s.line.receiver ∧
      (finishHead a s).line.lastSeq = s.line.lastSeq ∧ (finishHead a s).line.latest = s.line.latest := by
  unfold finishHead; split <;> simp

end Sys2Proof.Machine
end

