-- ==== Sys2Proof/Laws/LanesFrames.lean ====
section
/-!
SUPPORT. What each operation of Machine/Lanes.lean leaves as it was: one lemma for each, as rewrite rules.
-/

namespace Sys2Proof.Machine

/-- What `buildLane` leaves. -/
@[simp] theorem buildLane_frame (l : LaneId) (s : State) :
    (buildLane l s).line = s.line ∧ (buildLane l s).mgmt = s.mgmt ∧ (buildLane l s).store = s.store ∧
      (buildLane l s).seq = s.seq ∧ (buildLane l s).needleSets = s.needleSets ∧ (buildLane l s).interlock = s.interlock ∧
      (buildLane l s).asm = s.asm ∧ (buildLane l s).link = s.link ∧ (buildLane l s).needles = s.needles ∧
      (buildLane l s).tally = s.tally ∧ (buildLane l s).notice = s.notice ∧ (buildLane l s).config = s.config ∧
      (buildLane l s).comp = s.comp ∧ (buildLane l s).reports = s.reports ∧ (buildLane l s).pending = s.pending := by
  simp [buildLane]

/-- What `requestSegment` leaves. -/
@[simp] theorem requestSegment_frame (l : LaneId) (i : Nat) (s : State) :
    (requestSegment l i s).line = s.line ∧ (requestSegment l i s).mgmt = s.mgmt ∧ (requestSegment l i s).seq = s.seq ∧
      (requestSegment l i s).lanes = s.lanes ∧ (requestSegment l i s).needleSets = s.needleSets ∧
      (requestSegment l i s).interlock = s.interlock ∧ (requestSegment l i s).asm = s.asm ∧
      (requestSegment l i s).link = s.link ∧ (requestSegment l i s).needles = s.needles ∧
      (requestSegment l i s).tally = s.tally ∧ (requestSegment l i s).flags = s.flags ∧
      (requestSegment l i s).notice = s.notice ∧ (requestSegment l i s).config = s.config ∧
      (requestSegment l i s).comp = s.comp ∧ (requestSegment l i s).reports = s.reports ∧
      (requestSegment l i s).pending = s.pending ∧ (requestSegment l i s).store.mem = s.store.mem ∧
      (requestSegment l i s).store.free = s.store.free ∧ (requestSegment l i s).store.dir = s.store.dir ∧
      (requestSegment l i s).store.layout = s.store.layout := by
  unfold requestSegment; split <;> simp

/-- What `requestFollowing` leaves. -/
@[simp] theorem requestFollowing_frame (l : LaneId) (s : State) :
    (requestFollowing l s).line = s.line ∧ (requestFollowing l s).mgmt = s.mgmt ∧ (requestFollowing l s).seq = s.seq ∧
      (requestFollowing l s).needleSets = s.needleSets ∧ (requestFollowing l s).interlock = s.interlock ∧
      (requestFollowing l s).asm = s.asm ∧ (requestFollowing l s).link = s.link ∧
      (requestFollowing l s).needles = s.needles ∧ (requestFollowing l s).tally = s.tally ∧
      (requestFollowing l s).flags = s.flags ∧ (requestFollowing l s).notice = s.notice ∧
      (requestFollowing l s).config = s.config ∧ (requestFollowing l s).comp = s.comp ∧
      (requestFollowing l s).reports = s.reports ∧ (requestFollowing l s).pending = s.pending ∧
      (requestFollowing l s).store.mem = s.store.mem ∧ (requestFollowing l s).store.free = s.store.free ∧
      (requestFollowing l s).store.dir = s.store.dir ∧ (requestFollowing l s).store.layout = s.store.layout := by
  unfold requestFollowing; (repeat' split) <;> simp

/-- What `emptyBuffer` leaves. -/
@[simp] theorem emptyBuffer_frame (l : LaneId) (s : State) :
    (emptyBuffer l s).line = s.line ∧ (emptyBuffer l s).mgmt = s.mgmt ∧ (emptyBuffer l s).seq = s.seq ∧
      (emptyBuffer l s).needleSets = s.needleSets ∧ (emptyBuffer l s).interlock = s.interlock ∧
      (emptyBuffer l s).asm = s.asm ∧ (emptyBuffer l s).link = s.link ∧ (emptyBuffer l s).needles = s.needles ∧
      (emptyBuffer l s).tally = s.tally ∧ (emptyBuffer l s).flags = s.flags ∧ (emptyBuffer l s).notice = s.notice ∧
      (emptyBuffer l s).config = s.config ∧ (emptyBuffer l s).comp = s.comp ∧ (emptyBuffer l s).reports = s.reports ∧
      (emptyBuffer l s).pending = s.pending ∧ (emptyBuffer l s).store.mem = s.store.mem ∧
      (emptyBuffer l s).store.free = s.store.free ∧ (emptyBuffer l s).store.dir = s.store.dir ∧
      (emptyBuffer l s).store.layout = s.store.layout := by
  simp [emptyBuffer]

/-- What `startPanel` leaves. -/
@[simp] theorem startPanel_frame (l : LaneId) (j : LaneJob) (s : State) :
    (startPanel l j s).line = s.line ∧ (startPanel l j s).mgmt = s.mgmt ∧ (startPanel l j s).seq = s.seq ∧
      (startPanel l j s).needleSets = s.needleSets ∧ (startPanel l j s).interlock = s.interlock ∧
      (startPanel l j s).asm = s.asm ∧ (startPanel l j s).link = s.link ∧ (startPanel l j s).needles = s.needles ∧
      (startPanel l j s).tally = s.tally ∧ (startPanel l j s).notice = s.notice ∧ (startPanel l j s).config = s.config ∧
      (startPanel l j s).comp = s.comp ∧ (startPanel l j s).reports = s.reports ∧ (startPanel l j s).pending = s.pending ∧
      (startPanel l j s).store.mem = s.store.mem ∧ (startPanel l j s).store.free = s.store.free ∧
      (startPanel l j s).store.dir = s.store.dir ∧ (startPanel l j s).store.layout = s.store.layout := by
  simp only [startPanel]; (repeat' split) <;> simp

/-- What `consumeLane` leaves. -/
@[simp] theorem consumeLane_frame (l : LaneId) (c : Consumption) (s : State) :
    (consumeLane l c s).line = s.line ∧ (consumeLane l c s).mgmt = s.mgmt ∧ (consumeLane l c s).seq = s.seq ∧
      (consumeLane l c s).needleSets = s.needleSets ∧ (consumeLane l c s).interlock = s.interlock ∧
      (consumeLane l c s).asm = s.asm ∧ (consumeLane l c s).link = s.link ∧ (consumeLane l c s).needles = s.needles ∧
      (consumeLane l c s).tally = s.tally ∧ (consumeLane l c s).notice = s.notice ∧ (consumeLane l c s).config = s.config ∧
      (consumeLane l c s).comp = s.comp ∧ (consumeLane l c s).reports = s.reports ∧ (consumeLane l c s).pending = s.pending ∧
      (consumeLane l c s).store.mem = s.store.mem ∧ (consumeLane l c s).store.free = s.store.free ∧
      (consumeLane l c s).store.dir = s.store.dir ∧ (consumeLane l c s).store.layout = s.store.layout := by
  simp [consumeLane]

/-- What `takeLaneReport` leaves. -/
@[simp] theorem takeLaneReport_frame (l : LaneId) (s : State) :
    (takeLaneReport l s).line = s.line ∧ (takeLaneReport l s).mgmt = s.mgmt ∧ (takeLaneReport l s).seq = s.seq ∧
      (takeLaneReport l s).needleSets = s.needleSets ∧ (takeLaneReport l s).interlock = s.interlock ∧
      (takeLaneReport l s).asm = s.asm ∧ (takeLaneReport l s).link = s.link ∧ (takeLaneReport l s).needles = s.needles ∧
      (takeLaneReport l s).tally = s.tally ∧ (takeLaneReport l s).notice = s.notice ∧
      (takeLaneReport l s).config = s.config ∧ (takeLaneReport l s).comp = s.comp ∧
      (takeLaneReport l s).pending = s.pending ∧ (takeLaneReport l s).store.mem = s.store.mem ∧
      (takeLaneReport l s).store.free = s.store.free ∧ (takeLaneReport l s).store.dir = s.store.dir ∧
      (takeLaneReport l s).store.layout = s.store.layout ∧ (takeLaneReport l s).reports.feeds = s.reports.feeds ∧
      (takeLaneReport l s).reports.sequencer = s.reports.sequencer ∧
      (takeLaneReport l s).reports.notices = s.reports.notices := by
  unfold takeLaneReport; (repeat' split) <;> simp

/-- What `switchPhase` leaves. -/
@[simp] theorem switchPhase_frame (l : LaneId) (p : PanelPhase) (s : State) :
    (switchPhase l p s).line = s.line ∧ (switchPhase l p s).mgmt = s.mgmt ∧ (switchPhase l p s).seq = s.seq ∧
      (switchPhase l p s).needleSets = s.needleSets ∧ (switchPhase l p s).interlock = s.interlock ∧
      (switchPhase l p s).asm = s.asm ∧ (switchPhase l p s).link = s.link ∧ (switchPhase l p s).needles = s.needles ∧
      (switchPhase l p s).tally = s.tally ∧ (switchPhase l p s).flags = s.flags ∧ (switchPhase l p s).notice = s.notice ∧
      (switchPhase l p s).config = s.config ∧ (switchPhase l p s).comp = s.comp ∧ (switchPhase l p s).reports = s.reports ∧
      (switchPhase l p s).pending = s.pending ∧ (switchPhase l p s).store.mem = s.store.mem ∧
      (switchPhase l p s).store.free = s.store.free ∧ (switchPhase l p s).store.dir = s.store.dir ∧
      (switchPhase l p s).store.layout = s.store.layout := by
  unfold switchPhase; split <;> simp

/-- What `takePhase` leaves. -/
@[simp] theorem takePhase_frame (l : LaneId) (p : PanelPhase) (s : State) :
    (takePhase l p s).line = s.line ∧ (takePhase l p s).mgmt = s.mgmt ∧ (takePhase l p s).seq = s.seq ∧
      (takePhase l p s).needleSets = s.needleSets ∧ (takePhase l p s).interlock = s.interlock ∧
      (takePhase l p s).asm = s.asm ∧ (takePhase l p s).link = s.link ∧ (takePhase l p s).needles = s.needles ∧
      (takePhase l p s).tally = s.tally ∧ (takePhase l p s).notice = s.notice ∧ (takePhase l p s).config = s.config ∧
      (takePhase l p s).comp = s.comp ∧ (takePhase l p s).pending = s.pending ∧ (takePhase l p s).store.mem = s.store.mem ∧
      (takePhase l p s).store.free = s.store.free ∧ (takePhase l p s).store.dir = s.store.dir ∧
      (takePhase l p s).store.layout = s.store.layout ∧ (takePhase l p s).reports.feeds = s.reports.feeds ∧
      (takePhase l p s).reports.sequencer = s.reports.sequencer ∧ (takePhase l p s).reports.notices = s.reports.notices := by
  unfold takePhase; (repeat' split) <;> simp

/-- What `endPanel` leaves. -/
@[simp] theorem endPanel_frame (l : LaneId) (s : State) :
    (endPanel l s).line = s.line ∧ (endPanel l s).mgmt = s.mgmt ∧ (endPanel l s).seq = s.seq ∧
      (endPanel l s).needleSets = s.needleSets ∧ (endPanel l s).interlock = s.interlock ∧ (endPanel l s).asm = s.asm ∧
      (endPanel l s).link = s.link ∧ (endPanel l s).needles = s.needles ∧ (endPanel l s).tally = s.tally ∧
      (endPanel l s).flags = s.flags ∧ (endPanel l s).notice = s.notice ∧ (endPanel l s).config = s.config ∧
      (endPanel l s).comp = s.comp ∧ (endPanel l s).pending = s.pending ∧ (endPanel l s).store.mem = s.store.mem ∧
      (endPanel l s).store.free = s.store.free ∧ (endPanel l s).store.dir = s.store.dir ∧
      (endPanel l s).store.layout = s.store.layout ∧ (endPanel l s).reports.feeds = s.reports.feeds ∧
      (endPanel l s).reports.sequencer = s.reports.sequencer ∧ (endPanel l s).reports.notices = s.reports.notices := by
  unfold endPanel; split <;> simp

/-- What `startHanded` leaves. -/
@[simp] theorem startHanded_frame (l : LaneId) (next : Option LaneJob) (s : State) :
    (startHanded l next s).line = s.line ∧ (startHanded l next s).mgmt = s.mgmt ∧ (startHanded l next s).seq = s.seq ∧
      (startHanded l next s).needleSets = s.needleSets ∧ (startHanded l next s).interlock = s.interlock ∧
      (startHanded l next s).asm = s.asm ∧ (startHanded l next s).link = s.link ∧
      (startHanded l next s).needles = s.needles ∧ (startHanded l next s).tally = s.tally ∧
      (startHanded l next s).notice = s.notice ∧ (startHanded l next s).config = s.config ∧
      (startHanded l next s).comp = s.comp ∧ (startHanded l next s).reports = s.reports ∧
      (startHanded l next s).pending = s.pending ∧ (startHanded l next s).store.mem = s.store.mem ∧
      (startHanded l next s).store.free = s.store.free ∧ (startHanded l next s).store.dir = s.store.dir ∧
      (startHanded l next s).store.layout = s.store.layout := by
  unfold startHanded; split <;> simp

/-- What `takeNotice` leaves. -/
@[simp] theorem takeNotice_frame (l : LaneId) (s : State) :
    (takeNotice l s).line = s.line ∧ (takeNotice l s).mgmt = s.mgmt ∧ (takeNotice l s).seq = s.seq ∧
      (takeNotice l s).needleSets = s.needleSets ∧ (takeNotice l s).interlock = s.interlock ∧ (takeNotice l s).asm = s.asm ∧
      (takeNotice l s).link = s.link ∧ (takeNotice l s).needles = s.needles ∧ (takeNotice l s).tally = s.tally ∧
      (takeNotice l s).notice = s.notice ∧ (takeNotice l s).config = s.config ∧ (takeNotice l s).comp = s.comp ∧
      (takeNotice l s).pending = s.pending ∧ (takeNotice l s).store.mem = s.store.mem ∧
      (takeNotice l s).store.free = s.store.free ∧ (takeNotice l s).store.dir = s.store.dir ∧
      (takeNotice l s).store.layout = s.store.layout ∧ (takeNotice l s).reports.feeds = s.reports.feeds ∧
      (takeNotice l s).reports.sequencer = s.reports.sequencer := by
  unfold takeNotice; (repeat' split) <;> simp

/-- What `resetLane` leaves. -/
@[simp] theorem resetLane_frame (l : LaneId) (s : State) :
    (resetLane l s).line = s.line ∧ (resetLane l s).mgmt = s.mgmt ∧ (resetLane l s).seq = s.seq ∧
      (resetLane l s).needleSets = s.needleSets ∧ (resetLane l s).interlock = s.interlock ∧ (resetLane l s).asm = s.asm ∧
      (resetLane l s).link = s.link ∧ (resetLane l s).needles = s.needles ∧ (resetLane l s).tally = s.tally ∧
      (resetLane l s).flags = s.flags ∧ (resetLane l s).notice = s.notice ∧ (resetLane l s).config = s.config ∧
      (resetLane l s).comp = s.comp ∧ (resetLane l s).pending = s.pending ∧ (resetLane l s).store.mem = s.store.mem ∧
      (resetLane l s).store.free = s.store.free ∧ (resetLane l s).store.dir = s.store.dir ∧
      (resetLane l s).store.layout = s.store.layout ∧ (resetLane l s).reports.feeds = s.reports.feeds ∧
      (resetLane l s).reports.sequencer = s.reports.sequencer := by
  simp [resetLane]

/-- What `resetLanes` leaves. -/
@[simp] theorem resetLanes_frame (s : State) :
    (resetLanes s).line = s.line ∧ (resetLanes s).mgmt = s.mgmt ∧ (resetLanes s).seq = s.seq ∧
      (resetLanes s).needleSets = s.needleSets ∧ (resetLanes s).interlock = s.interlock ∧ (resetLanes s).asm = s.asm ∧
      (resetLanes s).link = s.link ∧ (resetLanes s).needles = s.needles ∧ (resetLanes s).tally = s.tally ∧
      (resetLanes s).flags = s.flags ∧ (resetLanes s).notice = s.notice ∧ (resetLanes s).config = s.config ∧
      (resetLanes s).comp = s.comp ∧ (resetLanes s).pending = s.pending ∧ (resetLanes s).store.mem = s.store.mem ∧
      (resetLanes s).store.free = s.store.free ∧ (resetLanes s).store.dir = s.store.dir ∧
      (resetLanes s).store.layout = s.store.layout ∧ (resetLanes s).reports.feeds = s.reports.feeds ∧
      (resetLanes s).reports.sequencer = s.reports.sequencer := by
  exact ⟨foldl_keeps (·.line) _ (by simp) _ _, foldl_keeps (·.mgmt) _ (by simp) _ _, foldl_keeps (·.seq) _ (by simp) _ _,
    foldl_keeps (·.needleSets) _ (by simp) _ _, foldl_keeps (·.interlock) _ (by simp) _ _,
    foldl_keeps (·.asm) _ (by simp) _ _, foldl_keeps (·.link) _ (by simp) _ _, foldl_keeps (·.needles) _ (by simp) _ _,
    foldl_keeps (·.tally) _ (by simp) _ _, foldl_keeps (·.flags) _ (by simp) _ _, foldl_keeps (·.notice) _ (by simp) _ _,
    foldl_keeps (·.config) _ (by simp) _ _, foldl_keeps (·.comp) _ (by simp) _ _, foldl_keeps (·.pending) _ (by simp) _ _,
    foldl_keeps (·.store.mem) _ (by simp) _ _, foldl_keeps (·.store.free) _ (by simp) _ _,
    foldl_keeps (·.store.dir) _ (by simp) _ _, foldl_keeps (·.store.layout) _ (by simp) _ _,
    foldl_keeps (·.reports.feeds) _ (by simp) _ _, foldl_keeps (·.reports.sequencer) _ (by simp) _ _⟩

/-- What `deliverTo` leaves. -/
@[simp] theorem deliverTo_frame (l : LaneId) (g : Segment) (s : State) :
    (deliverTo l g s).line = s.line ∧ (deliverTo l g s).mgmt = s.mgmt ∧ (deliverTo l g s).seq = s.seq ∧
      (deliverTo l g s).needleSets = s.needleSets ∧ (deliverTo l g s).interlock = s.interlock ∧
      (deliverTo l g s).asm = s.asm ∧ (deliverTo l g s).link = s.link ∧ (deliverTo l g s).needles = s.needles ∧
      (deliverTo l g s).tally = s.tally ∧ (deliverTo l g s).notice = s.notice ∧ (deliverTo l g s).config = s.config ∧
      (deliverTo l g s).comp = s.comp ∧ (deliverTo l g s).reports = s.reports ∧ (deliverTo l g s).pending = s.pending ∧
      (deliverTo l g s).store.mem = s.store.mem ∧ (deliverTo l g s).store.free = s.store.free ∧
      (deliverTo l g s).store.dir = s.store.dir ∧ (deliverTo l g s).store.layout = s.store.layout := by
  simp only [deliverTo]; (repeat' split) <;> simp

/-- What `completeFetch` leaves. -/
@[simp] theorem completeFetch_frame (l : LaneId) (s : State) :
    (completeFetch l s).line = s.line ∧ (completeFetch l s).mgmt = s.mgmt ∧ (completeFetch l s).seq = s.seq ∧
      (completeFetch l s).needleSets = s.needleSets ∧ (completeFetch l s).interlock = s.interlock ∧
      (completeFetch l s).asm = s.asm ∧ (completeFetch l s).link = s.link ∧ (completeFetch l s).needles = s.needles ∧
      (completeFetch l s).tally = s.tally ∧ (completeFetch l s).notice = s.notice ∧ (completeFetch l s).config = s.config ∧
      (completeFetch l s).comp = s.comp ∧ (completeFetch l s).reports = s.reports ∧ (completeFetch l s).pending = s.pending ∧
      (completeFetch l s).store.mem = s.store.mem ∧ (completeFetch l s).store.free = s.store.free ∧
      (completeFetch l s).store.dir = s.store.dir ∧ (completeFetch l s).store.layout = s.store.layout := by
  unfold completeFetch; (repeat' split) <;> simp

end Sys2Proof.Machine
end

