-- ==== Sys2Proof/Laws/TalliesFrames.lean ====
section
/-!
SUPPORT. What each operation of Machine/Tallies.lean leaves as it was: one lemma for each, as rewrite rules.
-/

namespace Sys2Proof.Machine

/-- What `markReached` leaves. -/
@[simp] theorem markReached_frame (s : State) :
    (markReached s).line = s.line ∧ (markReached s).mgmt = s.mgmt ∧ (markReached s).store = s.store ∧
      (markReached s).lanes = s.lanes ∧ (markReached s).needleSets = s.needleSets ∧ (markReached s).interlock = s.interlock ∧
      (markReached s).asm = s.asm ∧ (markReached s).link = s.link ∧ (markReached s).needles = s.needles ∧
      (markReached s).tally = s.tally ∧ (markReached s).notice = s.notice ∧ (markReached s).config = s.config ∧
      (markReached s).comp = s.comp ∧ (markReached s).reports = s.reports ∧ (markReached s).pending = s.pending ∧
      (markReached s).seq.state = s.seq.state ∧ (markReached s).seq.ring = s.seq.ring ∧ (markReached s).seq.ci = s.seq.ci ∧
      (markReached s).seq.lvi = s.seq.lvi ∧ (markReached s).seq.ciStatus = s.seq.ciStatus ∧
      (markReached s).seq.prefetch = s.seq.prefetch ∧ (markReached s).seq.phase = s.seq.phase ∧
      (markReached s).seq.current = s.seq.current ∧ (markReached s).seq.serial = s.seq.serial ∧
      (markReached s).seq.dwell = s.seq.dwell ∧ (markReached s).seq.gapRem = s.seq.gapRem ∧
      (markReached s).seq.tie = s.seq.tie ∧ (markReached s).seq.repeats = s.seq.repeats := by
  unfold markReached; split <;> simp

/-- What `judgeMark` leaves. -/
@[simp] theorem judgeMark_frame (metresChanged panelsChanged : Bool) (s : State) :
    (judgeMark metresChanged panelsChanged s).line = s.line ∧ (judgeMark metresChanged panelsChanged s).mgmt = s.mgmt ∧
      (judgeMark metresChanged panelsChanged s).store = s.store ∧ (judgeMark metresChanged panelsChanged s).lanes = s.lanes ∧
      (judgeMark metresChanged panelsChanged s).needleSets = s.needleSets ∧
      (judgeMark metresChanged panelsChanged s).interlock = s.interlock ∧
      (judgeMark metresChanged panelsChanged s).asm = s.asm ∧ (judgeMark metresChanged panelsChanged s).link = s.link ∧
      (judgeMark metresChanged panelsChanged s).needles = s.needles ∧
      (judgeMark metresChanged panelsChanged s).tally = s.tally ∧
      (judgeMark metresChanged panelsChanged s).notice = s.notice ∧
      (judgeMark metresChanged panelsChanged s).config = s.config ∧ (judgeMark metresChanged panelsChanged s).comp = s.comp ∧
      (judgeMark metresChanged panelsChanged s).reports = s.reports ∧
      (judgeMark metresChanged panelsChanged s).pending = s.pending ∧
      (judgeMark metresChanged panelsChanged s).seq.state = s.seq.state ∧
      (judgeMark metresChanged panelsChanged s).seq.ring = s.seq.ring ∧
      (judgeMark metresChanged panelsChanged s).seq.ci = s.seq.ci ∧
      (judgeMark metresChanged panelsChanged s).seq.lvi = s.seq.lvi ∧
      (judgeMark metresChanged panelsChanged s).seq.ciStatus = s.seq.ciStatus ∧
      (judgeMark metresChanged panelsChanged s).seq.prefetch = s.seq.prefetch ∧
      (judgeMark metresChanged panelsChanged s).seq.phase = s.seq.phase ∧
      (judgeMark metresChanged panelsChanged s).seq.current = s.seq.current ∧
      (judgeMark metresChanged panelsChanged s).seq.serial = s.seq.serial ∧
      (judgeMark metresChanged panelsChanged s).seq.dwell = s.seq.dwell ∧
      (judgeMark metresChanged panelsChanged s).seq.gapRem = s.seq.gapRem ∧
      (judgeMark metresChanged panelsChanged s).seq.tie = s.seq.tie ∧
      (judgeMark metresChanged panelsChanged s).seq.repeats = s.seq.repeats := by
  unfold judgeMark; split <;> simp

/-- What `tallyFeed` leaves. -/
@[simp] theorem tallyFeed_frame (f : Nat) (s : State) :
    (tallyFeed f s).line = s.line ∧ (tallyFeed f s).mgmt = s.mgmt ∧ (tallyFeed f s).store = s.store ∧
      (tallyFeed f s).lanes = s.lanes ∧ (tallyFeed f s).needleSets = s.needleSets ∧ (tallyFeed f s).interlock = s.interlock ∧
      (tallyFeed f s).asm = s.asm ∧ (tallyFeed f s).link = s.link ∧ (tallyFeed f s).needles = s.needles ∧
      (tallyFeed f s).notice = s.notice ∧ (tallyFeed f s).config = s.config ∧ (tallyFeed f s).comp = s.comp ∧
      (tallyFeed f s).reports = s.reports ∧ (tallyFeed f s).pending = s.pending ∧ (tallyFeed f s).seq.state = s.seq.state ∧
      (tallyFeed f s).seq.ring = s.seq.ring ∧ (tallyFeed f s).seq.ci = s.seq.ci ∧ (tallyFeed f s).seq.lvi = s.seq.lvi ∧
      (tallyFeed f s).seq.ciStatus = s.seq.ciStatus ∧ (tallyFeed f s).seq.prefetch = s.seq.prefetch ∧
      (tallyFeed f s).seq.phase = s.seq.phase ∧ (tallyFeed f s).seq.current = s.seq.current ∧
      (tallyFeed f s).seq.serial = s.seq.serial ∧ (tallyFeed f s).seq.dwell = s.seq.dwell ∧
      (tallyFeed f s).seq.gapRem = s.seq.gapRem ∧ (tallyFeed f s).seq.tie = s.seq.tie ∧
      (tallyFeed f s).seq.repeats = s.seq.repeats := by
  unfold tallyFeed; split <;> simp

/-- What `tallyPanel` leaves. -/
@[simp] theorem tallyPanel_frame (s : State) :
    (tallyPanel s).line = s.line ∧ (tallyPanel s).mgmt = s.mgmt ∧ (tallyPanel s).store = s.store ∧
      (tallyPanel s).lanes = s.lanes ∧ (tallyPanel s).needleSets = s.needleSets ∧ (tallyPanel s).interlock = s.interlock ∧
      (tallyPanel s).asm = s.asm ∧ (tallyPanel s).link = s.link ∧ (tallyPanel s).needles = s.needles ∧
      (tallyPanel s).notice = s.notice ∧ (tallyPanel s).config = s.config ∧ (tallyPanel s).comp = s.comp ∧
      (tallyPanel s).reports = s.reports ∧ (tallyPanel s).pending = s.pending ∧ (tallyPanel s).seq.state = s.seq.state ∧
      (tallyPanel s).seq.ring = s.seq.ring ∧ (tallyPanel s).seq.ci = s.seq.ci ∧ (tallyPanel s).seq.lvi = s.seq.lvi ∧
      (tallyPanel s).seq.ciStatus = s.seq.ciStatus ∧ (tallyPanel s).seq.prefetch = s.seq.prefetch ∧
      (tallyPanel s).seq.phase = s.seq.phase ∧ (tallyPanel s).seq.current = s.seq.current ∧
      (tallyPanel s).seq.serial = s.seq.serial ∧ (tallyPanel s).seq.dwell = s.seq.dwell ∧
      (tallyPanel s).seq.gapRem = s.seq.gapRem ∧ (tallyPanel s).seq.tie = s.seq.tie ∧
      (tallyPanel s).seq.repeats = s.seq.repeats ∧ (tallyPanel s).tally.run = s.tally.run ∧
      (tallyPanel s).tally.selection = s.tally.selection ∧ (tallyPanel s).tally.action = s.tally.action ∧
      (tallyPanel s).tally.metreValue = s.tally.metreValue ∧ (tallyPanel s).tally.panelValue = s.tally.panelValue ∧
      (tallyPanel s).tally.steps = s.tally.steps ∧ (tallyPanel s).tally.mm = s.tally.mm ∧
      (tallyPanel s).tally.metres = s.tally.metres := by
  unfold tallyPanel; split <;> simp

/-- What `takeFeedReport` leaves. -/
@[simp] theorem takeFeedReport_frame (s : State) :
    (takeFeedReport s).line = s.line ∧ (takeFeedReport s).mgmt = s.mgmt ∧ (takeFeedReport s).store = s.store ∧
      (takeFeedReport s).lanes = s.lanes ∧ (takeFeedReport s).needleSets = s.needleSets ∧
      (takeFeedReport s).interlock = s.interlock ∧ (takeFeedReport s).asm = s.asm ∧ (takeFeedReport s).link = s.link ∧
      (takeFeedReport s).needles = s.needles ∧ (takeFeedReport s).notice = s.notice ∧ (takeFeedReport s).config = s.config ∧
      (takeFeedReport s).comp = s.comp ∧ (takeFeedReport s).pending = s.pending ∧
      (takeFeedReport s).seq.state = s.seq.state ∧ (takeFeedReport s).seq.ring = s.seq.ring ∧
      (takeFeedReport s).seq.ci = s.seq.ci ∧ (takeFeedReport s).seq.lvi = s.seq.lvi ∧
      (takeFeedReport s).seq.ciStatus = s.seq.ciStatus ∧ (takeFeedReport s).seq.prefetch = s.seq.prefetch ∧
      (takeFeedReport s).seq.phase = s.seq.phase ∧ (takeFeedReport s).seq.current = s.seq.current ∧
      (takeFeedReport s).seq.serial = s.seq.serial ∧ (takeFeedReport s).seq.dwell = s.seq.dwell ∧
      (takeFeedReport s).seq.gapRem = s.seq.gapRem ∧ (takeFeedReport s).seq.tie = s.seq.tie ∧
      (takeFeedReport s).seq.repeats = s.seq.repeats ∧ (takeFeedReport s).reports.sequencer = s.reports.sequencer ∧
      (takeFeedReport s).reports.consumption = s.reports.consumption ∧
      (takeFeedReport s).reports.notices = s.reports.notices := by
  unfold takeFeedReport; split <;> simp

/-- What `takeFeeds` leaves. -/
@[simp] theorem takeFeeds_frame (s : State) :
    (takeFeeds s).line = s.line ∧ (takeFeeds s).mgmt = s.mgmt ∧ (takeFeeds s).store = s.store ∧
      (takeFeeds s).lanes = s.lanes ∧ (takeFeeds s).needleSets = s.needleSets ∧ (takeFeeds s).interlock = s.interlock ∧
      (takeFeeds s).asm = s.asm ∧ (takeFeeds s).link = s.link ∧ (takeFeeds s).needles = s.needles ∧
      (takeFeeds s).notice = s.notice ∧ (takeFeeds s).config = s.config ∧ (takeFeeds s).comp = s.comp ∧
      (takeFeeds s).pending = s.pending ∧ (takeFeeds s).seq.state = s.seq.state ∧ (takeFeeds s).seq.ring = s.seq.ring ∧
      (takeFeeds s).seq.ci = s.seq.ci ∧ (takeFeeds s).seq.lvi = s.seq.lvi ∧ (takeFeeds s).seq.ciStatus = s.seq.ciStatus ∧
      (takeFeeds s).seq.prefetch = s.seq.prefetch ∧ (takeFeeds s).seq.phase = s.seq.phase ∧
      (takeFeeds s).seq.current = s.seq.current ∧ (takeFeeds s).seq.serial = s.seq.serial ∧
      (takeFeeds s).seq.dwell = s.seq.dwell ∧ (takeFeeds s).seq.gapRem = s.seq.gapRem ∧ (takeFeeds s).seq.tie = s.seq.tie ∧
      (takeFeeds s).seq.repeats = s.seq.repeats ∧ (takeFeeds s).reports.sequencer = s.reports.sequencer ∧
      (takeFeeds s).reports.consumption = s.reports.consumption ∧ (takeFeeds s).reports.notices = s.reports.notices := by
  have keeps : ∀ {β : Type} (g : State → β), (∀ s f, g (tallyFeed f s) = g s) →
      g (takeFeeds s) = g { s with reports := { s.reports with feeds := [] } } :=
    fun g h => foldl_keeps g _ (fun s f => h s f) _ _
  exact ⟨keeps (·.line) (by simp), keeps (·.mgmt) (by simp), keeps (·.store) (by simp), keeps (·.lanes) (by simp),
    keeps (·.needleSets) (by simp), keeps (·.interlock) (by simp), keeps (·.asm) (by simp), keeps (·.link) (by simp),
    keeps (·.needles) (by simp), keeps (·.notice) (by simp), keeps (·.config) (by simp), keeps (·.comp) (by simp),
    keeps (·.pending) (by simp), keeps (·.seq.state) (by simp), keeps (·.seq.ring) (by simp), keeps (·.seq.ci) (by simp),
    keeps (·.seq.lvi) (by simp), keeps (·.seq.ciStatus) (by simp), keeps (·.seq.prefetch) (by simp),
    keeps (·.seq.phase) (by simp), keeps (·.seq.current) (by simp), keeps (·.seq.serial) (by simp),
    keeps (·.seq.dwell) (by simp), keeps (·.seq.gapRem) (by simp), keeps (·.seq.tie) (by simp),
    keeps (·.seq.repeats) (by simp), keeps (·.reports.sequencer) (by simp), keeps (·.reports.consumption) (by simp),
    keeps (·.reports.notices) (by simp)⟩

/-- No feed report is in flight after `takeFeeds`. -/
@[simp] theorem takeFeeds_feeds (s : State) : (takeFeeds s).reports.feeds = [] :=
  foldl_keeps (fun t => t.reports.feeds) _ (fun s f => by simp) _ _

/-- A feed report leaves the settings, the run state and the panel tally. -/
@[simp] theorem tallyFeed_settings (f : Nat) (s : State) :
    (tallyFeed f s).tally.run = s.tally.run ∧ (tallyFeed f s).tally.selection = s.tally.selection ∧
      (tallyFeed f s).tally.action = s.tally.action ∧ (tallyFeed f s).tally.metreValue = s.tally.metreValue ∧
      (tallyFeed f s).tally.panelValue = s.tally.panelValue ∧ (tallyFeed f s).tally.panels = s.tally.panels := by
  unfold tallyFeed; split <;> simp [Tally.addFeed]

/-- The feed reports leave the settings, the run state and the panel tally. -/
@[simp] theorem takeFeeds_settings (s : State) :
    (takeFeeds s).tally.run = s.tally.run ∧ (takeFeeds s).tally.selection = s.tally.selection ∧
      (takeFeeds s).tally.action = s.tally.action ∧ (takeFeeds s).tally.metreValue = s.tally.metreValue ∧
      (takeFeeds s).tally.panelValue = s.tally.panelValue ∧ (takeFeeds s).tally.panels = s.tally.panels := by
  have keeps : ∀ {β : Type} (g : State → β), (∀ s f, g (tallyFeed f s) = g s) →
      g (takeFeeds s) = g { s with reports := { s.reports with feeds := [] } } :=
    fun g h => foldl_keeps g _ (fun s f => h s f) _ _
  exact ⟨keeps (·.tally.run) (by simp), keeps (·.tally.selection) (by simp), keeps (·.tally.action) (by simp),
    keeps (·.tally.metreValue) (by simp), keeps (·.tally.panelValue) (by simp), keeps (·.tally.panels) (by simp)⟩

/-- What `doTallyControl` leaves. -/
@[simp] theorem doTallyControl_frame (bits : Byte) (s : State) :
    (doTallyControl bits s).1.line = s.line ∧ (doTallyControl bits s).1.mgmt = s.mgmt ∧
      (doTallyControl bits s).1.store = s.store ∧ (doTallyControl bits s).1.lanes = s.lanes ∧
      (doTallyControl bits s).1.needleSets = s.needleSets ∧ (doTallyControl bits s).1.interlock = s.interlock ∧
      (doTallyControl bits s).1.asm = s.asm ∧ (doTallyControl bits s).1.link = s.link ∧
      (doTallyControl bits s).1.needles = s.needles ∧ (doTallyControl bits s).1.notice = s.notice ∧
      (doTallyControl bits s).1.config = s.config ∧ (doTallyControl bits s).1.comp = s.comp ∧
      (doTallyControl bits s).1.pending = s.pending ∧ (doTallyControl bits s).1.seq.state = s.seq.state ∧
      (doTallyControl bits s).1.seq.ring = s.seq.ring ∧ (doTallyControl bits s).1.seq.ci = s.seq.ci ∧
      (doTallyControl bits s).1.seq.lvi = s.seq.lvi ∧ (doTallyControl bits s).1.seq.ciStatus = s.seq.ciStatus ∧
      (doTallyControl bits s).1.seq.prefetch = s.seq.prefetch ∧ (doTallyControl bits s).1.seq.phase = s.seq.phase ∧
      (doTallyControl bits s).1.seq.current = s.seq.current ∧ (doTallyControl bits s).1.seq.serial = s.seq.serial ∧
      (doTallyControl bits s).1.seq.dwell = s.seq.dwell ∧ (doTallyControl bits s).1.seq.gapRem = s.seq.gapRem ∧
      (doTallyControl bits s).1.seq.tie = s.seq.tie ∧ (doTallyControl bits s).1.seq.repeats = s.seq.repeats ∧
      (doTallyControl bits s).1.reports.sequencer = s.reports.sequencer ∧
      (doTallyControl bits s).1.reports.consumption = s.reports.consumption ∧
      (doTallyControl bits s).1.reports.notices = s.reports.notices := by
  simp [doTallyControl]

/-- What `doReadTally` leaves. -/
@[simp] theorem doReadTally_frame (s : State) :
    (doReadTally s).1.line = s.line ∧ (doReadTally s).1.mgmt = s.mgmt ∧ (doReadTally s).1.store = s.store ∧
      (doReadTally s).1.lanes = s.lanes ∧ (doReadTally s).1.needleSets = s.needleSets ∧
      (doReadTally s).1.interlock = s.interlock ∧ (doReadTally s).1.asm = s.asm ∧ (doReadTally s).1.link = s.link ∧
      (doReadTally s).1.needles = s.needles ∧ (doReadTally s).1.notice = s.notice ∧
      (doReadTally s).1.config = s.config ∧ (doReadTally s).1.comp = s.comp ∧ (doReadTally s).1.pending = s.pending ∧
      (doReadTally s).1.seq.state = s.seq.state ∧ (doReadTally s).1.seq.ring = s.seq.ring ∧
      (doReadTally s).1.seq.ci = s.seq.ci ∧ (doReadTally s).1.seq.lvi = s.seq.lvi ∧
      (doReadTally s).1.seq.ciStatus = s.seq.ciStatus ∧ (doReadTally s).1.seq.prefetch = s.seq.prefetch ∧
      (doReadTally s).1.seq.phase = s.seq.phase ∧ (doReadTally s).1.seq.current = s.seq.current ∧
      (doReadTally s).1.seq.serial = s.seq.serial ∧ (doReadTally s).1.seq.dwell = s.seq.dwell ∧
      (doReadTally s).1.seq.gapRem = s.seq.gapRem ∧ (doReadTally s).1.seq.tie = s.seq.tie ∧
      (doReadTally s).1.seq.repeats = s.seq.repeats ∧ (doReadTally s).1.reports.sequencer = s.reports.sequencer ∧
      (doReadTally s).1.reports.consumption = s.reports.consumption ∧
      (doReadTally s).1.reports.notices = s.reports.notices := by
  simp [doReadTally]

/-- What `doSetMark` leaves. -/
@[simp] theorem doSetMark_frame (selection : Byte) (metreValue panelValue : Half) (action : Byte) (s : State) :
    (doSetMark selection metreValue panelValue action s).1.line = s.line ∧
      (doSetMark selection metreValue panelValue action s).1.mgmt = s.mgmt ∧
      (doSetMark selection metreValue panelValue action s).1.store = s.store ∧
      (doSetMark selection metreValue panelValue action s).1.seq = s.seq ∧
      (doSetMark selection metreValue panelValue action s).1.lanes = s.lanes ∧
      (doSetMark selection metreValue panelValue action s).1.needleSets = s.needleSets ∧
      (doSetMark selection metreValue panelValue action s).1.interlock = s.interlock ∧
      (doSetMark selection metreValue panelValue action s).1.asm = s.asm ∧
      (doSetMark selection metreValue panelValue action s).1.link = s.link ∧
      (doSetMark selection metreValue panelValue action s).1.needles = s.needles ∧
      (doSetMark selection metreValue panelValue action s).1.flags = s.flags ∧
      (doSetMark selection metreValue panelValue action s).1.notice = s.notice ∧
      (doSetMark selection metreValue panelValue action s).1.config = s.config ∧
      (doSetMark selection metreValue panelValue action s).1.comp = s.comp ∧
      (doSetMark selection metreValue panelValue action s).1.reports = s.reports ∧
      (doSetMark selection metreValue panelValue action s).1.pending = s.pending ∧
      (doSetMark selection metreValue panelValue action s).1.tally.run = s.tally.run ∧
      (doSetMark selection metreValue panelValue action s).1.tally.steps = s.tally.steps ∧
      (doSetMark selection metreValue panelValue action s).1.tally.mm = s.tally.mm ∧
      (doSetMark selection metreValue panelValue action s).1.tally.metres = s.tally.metres ∧
      (doSetMark selection metreValue panelValue action s).1.tally.panels = s.tally.panels := by
  unfold doSetMark; split <;> simp

end Sys2Proof.Machine
end

