-- ==== Sys2Proof/Laws/NeedlesFrames.lean ====
section
/-!
SUPPORT. What each operation of Machine/Needles.lean leaves as it was: one lemma for each, as rewrite rules.
-/

namespace Sys2Proof.Machine

/-- What `logRepair` leaves. -/
@[simp] theorem logRepair_frame (r : Repair) (s : State) :
    (logRepair r s).line = s.line ∧ (logRepair r s).mgmt = s.mgmt ∧ (logRepair r s).store = s.store ∧
      (logRepair r s).lanes = s.lanes ∧ (logRepair r s).needleSets = s.needleSets ∧ (logRepair r s).interlock = s.interlock ∧
      (logRepair r s).asm = s.asm ∧ (logRepair r s).link = s.link ∧ (logRepair r s).tally = s.tally ∧
      (logRepair r s).notice = s.notice ∧ (logRepair r s).config = s.config ∧ (logRepair r s).comp = s.comp ∧
      (logRepair r s).reports = s.reports ∧ (logRepair r s).pending = s.pending ∧ (logRepair r s).seq.ring = s.seq.ring ∧
      (logRepair r s).seq.ci = s.seq.ci ∧ (logRepair r s).seq.lvi = s.seq.lvi ∧
      (logRepair r s).seq.ciStatus = s.seq.ciStatus ∧ (logRepair r s).seq.prefetch = s.seq.prefetch ∧
      (logRepair r s).seq.phase = s.seq.phase ∧ (logRepair r s).seq.current = s.seq.current ∧
      (logRepair r s).seq.serial = s.seq.serial ∧ (logRepair r s).seq.pausePending = s.seq.pausePending ∧
      (logRepair r s).seq.dwell = s.seq.dwell ∧ (logRepair r s).seq.gapRem = s.seq.gapRem ∧
      (logRepair r s).seq.tie = s.seq.tie ∧ (logRepair r s).seq.repeats = s.seq.repeats ∧
      (logRepair r s).needles.reservation = s.needles.reservation ∧ (logRepair r s).needles.entries = s.needles.entries := by
  unfold logRepair; (repeat' split) <;> simp

/-- What `reportNeedle` leaves. -/
@[simp] theorem reportNeedle_frame (l : LaneId) (seq : Half) (pos : Option Position) (n : NeedleId) (s : State) :
    (reportNeedle l seq pos n s).line = s.line ∧ (reportNeedle l seq pos n s).mgmt = s.mgmt ∧
      (reportNeedle l seq pos n s).store = s.store ∧ (reportNeedle l seq pos n s).lanes = s.lanes ∧
      (reportNeedle l seq pos n s).needleSets = s.needleSets ∧ (reportNeedle l seq pos n s).interlock = s.interlock ∧
      (reportNeedle l seq pos n s).asm = s.asm ∧ (reportNeedle l seq pos n s).link = s.link ∧
      (reportNeedle l seq pos n s).tally = s.tally ∧ (reportNeedle l seq pos n s).notice = s.notice ∧
      (reportNeedle l seq pos n s).config = s.config ∧ (reportNeedle l seq pos n s).comp = s.comp ∧
      (reportNeedle l seq pos n s).reports = s.reports ∧ (reportNeedle l seq pos n s).pending = s.pending ∧
      (reportNeedle l seq pos n s).seq.ring = s.seq.ring ∧ (reportNeedle l seq pos n s).seq.ci = s.seq.ci ∧
      (reportNeedle l seq pos n s).seq.lvi = s.seq.lvi ∧ (reportNeedle l seq pos n s).seq.ciStatus = s.seq.ciStatus ∧
      (reportNeedle l seq pos n s).seq.prefetch = s.seq.prefetch ∧ (reportNeedle l seq pos n s).seq.phase = s.seq.phase ∧
      (reportNeedle l seq pos n s).seq.current = s.seq.current ∧ (reportNeedle l seq pos n s).seq.serial = s.seq.serial ∧
      (reportNeedle l seq pos n s).seq.pausePending = s.seq.pausePending ∧
      (reportNeedle l seq pos n s).seq.dwell = s.seq.dwell ∧ (reportNeedle l seq pos n s).seq.gapRem = s.seq.gapRem ∧
      (reportNeedle l seq pos n s).seq.tie = s.seq.tie ∧ (reportNeedle l seq pos n s).seq.repeats = s.seq.repeats := by
  simp only [reportNeedle]; (repeat' split) <;> simp

/-- What `takeThreadReport` leaves. -/
@[simp] theorem takeThreadReport_frame (l : LaneId) (missing : NeedleSet) (seq : Half) (s : State) :
    (takeThreadReport l missing seq s).line = s.line ∧ (takeThreadReport l missing seq s).mgmt = s.mgmt ∧
      (takeThreadReport l missing seq s).store = s.store ∧ (takeThreadReport l missing seq s).lanes = s.lanes ∧
      (takeThreadReport l missing seq s).needleSets = s.needleSets ∧
      (takeThreadReport l missing seq s).interlock = s.interlock ∧ (takeThreadReport l missing seq s).asm = s.asm ∧
      (takeThreadReport l missing seq s).link = s.link ∧ (takeThreadReport l missing seq s).tally = s.tally ∧
      (takeThreadReport l missing seq s).notice = s.notice ∧ (takeThreadReport l missing seq s).config = s.config ∧
      (takeThreadReport l missing seq s).comp = s.comp ∧ (takeThreadReport l missing seq s).reports = s.reports ∧
      (takeThreadReport l missing seq s).pending = s.pending := by
  refine ⟨?_, ?_, ?_, ?_, ?_, ?_, ?_, ?_, ?_, ?_, ?_, ?_, ?_, ?_⟩ <;>
  (simp only [takeThreadReport]; exact foldl_keeps _ _ (fun s n => by split <;> simp) _ _)

/-- What `doReserveNeedle` leaves. -/
@[simp] theorem doReserveNeedle_frame (lane needle : Byte) (s : State) :
    (doReserveNeedle lane needle s).1.line = s.line ∧ (doReserveNeedle lane needle s).1.mgmt = s.mgmt ∧
      (doReserveNeedle lane needle s).1.store = s.store ∧ (doReserveNeedle lane needle s).1.seq = s.seq ∧
      (doReserveNeedle lane needle s).1.lanes = s.lanes ∧ (doReserveNeedle lane needle s).1.needleSets = s.needleSets ∧
      (doReserveNeedle lane needle s).1.interlock = s.interlock ∧ (doReserveNeedle lane needle s).1.asm = s.asm ∧
      (doReserveNeedle lane needle s).1.link = s.link ∧ (doReserveNeedle lane needle s).1.tally = s.tally ∧
      (doReserveNeedle lane needle s).1.flags = s.flags ∧ (doReserveNeedle lane needle s).1.notice = s.notice ∧
      (doReserveNeedle lane needle s).1.config = s.config ∧ (doReserveNeedle lane needle s).1.comp = s.comp ∧
      (doReserveNeedle lane needle s).1.reports = s.reports ∧ (doReserveNeedle lane needle s).1.pending = s.pending ∧
      (doReserveNeedle lane needle s).1.needles.log = s.needles.log ∧
      (doReserveNeedle lane needle s).1.needles.entries = s.needles.entries := by
  simp only [doReserveNeedle]; (repeat' split) <;> simp

/-- What `doRestoreNeedle` leaves. -/
@[simp] theorem doRestoreNeedle_frame (lane needle : Byte) (s : State) :
    (doRestoreNeedle lane needle s).1.line = s.line ∧ (doRestoreNeedle lane needle s).1.mgmt = s.mgmt ∧
      (doRestoreNeedle lane needle s).1.store = s.store ∧ (doRestoreNeedle lane needle s).1.seq = s.seq ∧
      (doRestoreNeedle lane needle s).1.lanes = s.lanes ∧ (doRestoreNeedle lane needle s).1.needleSets = s.needleSets ∧
      (doRestoreNeedle lane needle s).1.interlock = s.interlock ∧ (doRestoreNeedle lane needle s).1.asm = s.asm ∧
      (doRestoreNeedle lane needle s).1.link = s.link ∧ (doRestoreNeedle lane needle s).1.tally = s.tally ∧
      (doRestoreNeedle lane needle s).1.flags = s.flags ∧ (doRestoreNeedle lane needle s).1.notice = s.notice ∧
      (doRestoreNeedle lane needle s).1.config = s.config ∧ (doRestoreNeedle lane needle s).1.comp = s.comp ∧
      (doRestoreNeedle lane needle s).1.reports = s.reports ∧ (doRestoreNeedle lane needle s).1.pending = s.pending := by
  simp only [doRestoreNeedle]; (repeat' split) <;> simp

/-- What `doLockNeedle` leaves. -/
@[simp] theorem doLockNeedle_frame (lane needle : Byte) (s : State) :
    (doLockNeedle lane needle s).1.line = s.line ∧ (doLockNeedle lane needle s).1.mgmt = s.mgmt ∧
      (doLockNeedle lane needle s).1.store = s.store ∧ (doLockNeedle lane needle s).1.seq = s.seq ∧
      (doLockNeedle lane needle s).1.lanes = s.lanes ∧ (doLockNeedle lane needle s).1.needleSets = s.needleSets ∧
      (doLockNeedle lane needle s).1.interlock = s.interlock ∧ (doLockNeedle lane needle s).1.asm = s.asm ∧
      (doLockNeedle lane needle s).1.link = s.link ∧ (doLockNeedle lane needle s).1.tally = s.tally ∧
      (doLockNeedle lane needle s).1.flags = s.flags ∧ (doLockNeedle lane needle s).1.notice = s.notice ∧
      (doLockNeedle lane needle s).1.config = s.config ∧ (doLockNeedle lane needle s).1.comp = s.comp ∧
      (doLockNeedle lane needle s).1.reports = s.reports ∧ (doLockNeedle lane needle s).1.pending = s.pending := by
  simp only [doLockNeedle]; (repeat' split) <;> simp

/-- What `doGetNeedles` leaves. -/
@[simp] theorem doGetNeedles_frame (lane : Byte) (s : State) :
    (doGetNeedles lane s).1.line = s.line ∧ (doGetNeedles lane s).1.mgmt = s.mgmt ∧ (doGetNeedles lane s).1.store = s.store ∧
      (doGetNeedles lane s).1.seq = s.seq ∧ (doGetNeedles lane s).1.lanes = s.lanes ∧
      (doGetNeedles lane s).1.needleSets = s.needleSets ∧ (doGetNeedles lane s).1.interlock = s.interlock ∧
      (doGetNeedles lane s).1.asm = s.asm ∧ (doGetNeedles lane s).1.link = s.link ∧
      (doGetNeedles lane s).1.needles = s.needles ∧ (doGetNeedles lane s).1.tally = s.tally ∧
      (doGetNeedles lane s).1.flags = s.flags ∧ (doGetNeedles lane s).1.notice = s.notice ∧
      (doGetNeedles lane s).1.config = s.config ∧ (doGetNeedles lane s).1.comp = s.comp ∧
      (doGetNeedles lane s).1.reports = s.reports ∧ (doGetNeedles lane s).1.pending = s.pending := by
  unfold doGetNeedles; split <;> simp

/-- What `doReadRepairs` leaves. -/
@[simp] theorem doReadRepairs_frame (n : Byte) (s : State) :
    (doReadRepairs n s).1.line = s.line ∧ (doReadRepairs n s).1.mgmt = s.mgmt ∧ (doReadRepairs n s).1.store = s.store ∧
      (doReadRepairs n s).1.seq = s.seq ∧ (doReadRepairs n s).1.lanes = s.lanes ∧
      (doReadRepairs n s).1.needleSets = s.needleSets ∧ (doReadRepairs n s).1.interlock = s.interlock ∧
      (doReadRepairs n s).1.asm = s.asm ∧ (doReadRepairs n s).1.link = s.link ∧ (doReadRepairs n s).1.needles = s.needles ∧
      (doReadRepairs n s).1.tally = s.tally ∧ (doReadRepairs n s).1.flags = s.flags ∧
      (doReadRepairs n s).1.notice = s.notice ∧ (doReadRepairs n s).1.config = s.config ∧
      (doReadRepairs n s).1.comp = s.comp ∧ (doReadRepairs n s).1.reports = s.reports ∧
      (doReadRepairs n s).1.pending = s.pending := by
  unfold doReadRepairs; (repeat' split) <;> simp

/-- What `doRetireRepairs` leaves. -/
@[simp] theorem doRetireRepairs_frame (k : Byte) (s : State) :
    (doRetireRepairs k s).1.line = s.line ∧ (doRetireRepairs k s).1.mgmt = s.mgmt ∧ (doRetireRepairs k s).1.store = s.store ∧
      (doRetireRepairs k s).1.seq = s.seq ∧ (doRetireRepairs k s).1.lanes = s.lanes ∧
      (doRetireRepairs k s).1.needleSets = s.needleSets ∧ (doRetireRepairs k s).1.interlock = s.interlock ∧
      (doRetireRepairs k s).1.asm = s.asm ∧ (doRetireRepairs k s).1.link = s.link ∧ (doRetireRepairs k s).1.tally = s.tally ∧
      (doRetireRepairs k s).1.flags = s.flags ∧ (doRetireRepairs k s).1.notice = s.notice ∧
      (doRetireRepairs k s).1.config = s.config ∧ (doRetireRepairs k s).1.comp = s.comp ∧
      (doRetireRepairs k s).1.reports = s.reports ∧ (doRetireRepairs k s).1.pending = s.pending ∧
      (doRetireRepairs k s).1.needles.reservation = s.needles.reservation ∧
      (doRetireRepairs k s).1.needles.entries = s.needles.entries := by
  simp [doRetireRepairs]

end Sys2Proof.Machine
end

