-- ==== Sys2Proof/Laws/PanelsFrames.lean ====
section
/-!
SUPPORT. What each operation of Machine/Panels.lean leaves as it was: one lemma for each, as rewrite rules.
-/

namespace Sys2Proof.Machine

/-- What `dropPrefetch` leaves. -/
@[simp] theorem dropPrefetch_frame (s : State) :
    (dropPrefetch s).line = s.line ∧ (dropPrefetch s).mgmt = s.mgmt ∧ (dropPrefetch s).lanes = s.lanes ∧
      (dropPrefetch s).needleSets = s.needleSets ∧ (dropPrefetch s).interlock = s.interlock ∧ (dropPrefetch s).asm = s.asm ∧
      (dropPrefetch s).link = s.link ∧ (dropPrefetch s).needles = s.needles ∧ (dropPrefetch s).tally = s.tally ∧
      (dropPrefetch s).flags = s.flags ∧ (dropPrefetch s).notice = s.notice ∧ (dropPrefetch s).config = s.config ∧
      (dropPrefetch s).comp = s.comp ∧ (dropPrefetch s).reports = s.reports ∧ (dropPrefetch s).pending = s.pending ∧
      (dropPrefetch s).store.mem = s.store.mem ∧ (dropPrefetch s).store.free = s.store.free ∧
      (dropPrefetch s).store.layout = s.store.layout ∧ (dropPrefetch s).seq.state = s.seq.state ∧
      (dropPrefetch s).seq.ring = s.seq.ring ∧ (dropPrefetch s).seq.ci = s.seq.ci ∧ (dropPrefetch s).seq.lvi = s.seq.lvi ∧
      (dropPrefetch s).seq.ciStatus = s.seq.ciStatus ∧ (dropPrefetch s).seq.phase = s.seq.phase ∧
      (dropPrefetch s).seq.current = s.seq.current ∧ (dropPrefetch s).seq.serial = s.seq.serial ∧
      (dropPrefetch s).seq.pausePending = s.seq.pausePending ∧ (dropPrefetch s).seq.dwell = s.seq.dwell ∧
      (dropPrefetch s).seq.gapRem = s.seq.gapRem ∧ (dropPrefetch s).seq.tie = s.seq.tie ∧
      (dropPrefetch s).seq.repeats = s.seq.repeats := by
  unfold dropPrefetch; split <;> simp

/-- What `handLane` leaves. -/
@[simp] theorem handLane_frame (ctx : Context) (first : PanelPhase) (l : LaneId) (s : State) :
    (handLane ctx first l s).line = s.line ∧ (handLane ctx first l s).mgmt = s.mgmt ∧ (handLane ctx first l s).seq = s.seq ∧
      (handLane ctx first l s).needleSets = s.needleSets ∧ (handLane ctx first l s).interlock = s.interlock ∧
      (handLane ctx first l s).asm = s.asm ∧ (handLane ctx first l s).link = s.link ∧
      (handLane ctx first l s).needles = s.needles ∧ (handLane ctx first l s).tally = s.tally ∧
      (handLane ctx first l s).notice = s.notice ∧ (handLane ctx first l s).config = s.config ∧
      (handLane ctx first l s).comp = s.comp ∧ (handLane ctx first l s).pending = s.pending ∧
      (handLane ctx first l s).store.mem = s.store.mem ∧ (handLane ctx first l s).store.free = s.store.free ∧
      (handLane ctx first l s).store.dir = s.store.dir ∧ (handLane ctx first l s).store.layout = s.store.layout ∧
      (handLane ctx first l s).reports.feeds = s.reports.feeds ∧
      (handLane ctx first l s).reports.sequencer = s.reports.sequencer ∧
      (handLane ctx first l s).reports.consumption = s.reports.consumption := by
  unfold handLane; (repeat' split) <;> simp

/-- What `handPanel` leaves. -/
@[simp] theorem handPanel_frame (ctx : Context) (first : PanelPhase) (s : State) :
    (handPanel ctx first s).line = s.line ∧ (handPanel ctx first s).mgmt = s.mgmt ∧ (handPanel ctx first s).seq = s.seq ∧
      (handPanel ctx first s).needleSets = s.needleSets ∧ (handPanel ctx first s).interlock = s.interlock ∧
      (handPanel ctx first s).asm = s.asm ∧ (handPanel ctx first s).link = s.link ∧
      (handPanel ctx first s).needles = s.needles ∧ (handPanel ctx first s).tally = s.tally ∧
      (handPanel ctx first s).notice = s.notice ∧ (handPanel ctx first s).config = s.config ∧
      (handPanel ctx first s).comp = s.comp ∧ (handPanel ctx first s).pending = s.pending ∧
      (handPanel ctx first s).store.mem = s.store.mem ∧ (handPanel ctx first s).store.free = s.store.free ∧
      (handPanel ctx first s).store.dir = s.store.dir ∧ (handPanel ctx first s).store.layout = s.store.layout ∧
      (handPanel ctx first s).reports.feeds = s.reports.feeds ∧
      (handPanel ctx first s).reports.sequencer = s.reports.sequencer ∧
      (handPanel ctx first s).reports.consumption = s.reports.consumption := by
  simp [handPanel, allLanes]

/-- What `tellPanelEnd` leaves. -/
@[simp] theorem tellPanelEnd_frame (l : LaneId) (s : State) :
    (tellPanelEnd l s).line = s.line ∧ (tellPanelEnd l s).mgmt = s.mgmt ∧ (tellPanelEnd l s).seq = s.seq ∧
      (tellPanelEnd l s).lanes = s.lanes ∧ (tellPanelEnd l s).needleSets = s.needleSets ∧
      (tellPanelEnd l s).interlock = s.interlock ∧ (tellPanelEnd l s).asm = s.asm ∧ (tellPanelEnd l s).link = s.link ∧
      (tellPanelEnd l s).needles = s.needles ∧ (tellPanelEnd l s).tally = s.tally ∧ (tellPanelEnd l s).flags = s.flags ∧
      (tellPanelEnd l s).notice = s.notice ∧ (tellPanelEnd l s).config = s.config ∧ (tellPanelEnd l s).comp = s.comp ∧
      (tellPanelEnd l s).pending = s.pending ∧ (tellPanelEnd l s).store.mem = s.store.mem ∧
      (tellPanelEnd l s).store.free = s.store.free ∧ (tellPanelEnd l s).store.dir = s.store.dir ∧
      (tellPanelEnd l s).store.layout = s.store.layout ∧ (tellPanelEnd l s).reports.feeds = s.reports.feeds ∧
      (tellPanelEnd l s).reports.sequencer = s.reports.sequencer ∧
      (tellPanelEnd l s).reports.consumption = s.reports.consumption := by
  simp [tellPanelEnd]

/-- What `tellPanelEnds` leaves. -/
@[simp] theorem tellPanelEnds_frame (s : State) :
    (tellPanelEnds s).line = s.line ∧ (tellPanelEnds s).mgmt = s.mgmt ∧ (tellPanelEnds s).seq = s.seq ∧
      (tellPanelEnds s).lanes = s.lanes ∧ (tellPanelEnds s).needleSets = s.needleSets ∧
      (tellPanelEnds s).interlock = s.interlock ∧ (tellPanelEnds s).asm = s.asm ∧ (tellPanelEnds s).link = s.link ∧
      (tellPanelEnds s).needles = s.needles ∧ (tellPanelEnds s).tally = s.tally ∧ (tellPanelEnds s).flags = s.flags ∧
      (tellPanelEnds s).notice = s.notice ∧ (tellPanelEnds s).config = s.config ∧ (tellPanelEnds s).comp = s.comp ∧
      (tellPanelEnds s).pending = s.pending ∧ (tellPanelEnds s).store.mem = s.store.mem ∧
      (tellPanelEnds s).store.free = s.store.free ∧ (tellPanelEnds s).store.dir = s.store.dir ∧
      (tellPanelEnds s).store.layout = s.store.layout ∧ (tellPanelEnds s).reports.feeds = s.reports.feeds ∧
      (tellPanelEnds s).reports.sequencer = s.reports.sequencer ∧
      (tellPanelEnds s).reports.consumption = s.reports.consumption := by
  have keeps : ∀ {β : Type} (g : State → β), (∀ s l, g (tellPanelEnd l s) = g s) → g (tellPanelEnds s) = g s := by
    intro β g h
    refine foldl_keeps g _ (fun s l => ?_) _ _
    split
    · exact h s l
    · rfl
  exact ⟨keeps (·.line) (by simp), keeps (·.mgmt) (by simp), keeps (·.seq) (by simp), keeps (·.lanes) (by simp),
    keeps (·.needleSets) (by simp), keeps (·.interlock) (by simp), keeps (·.asm) (by simp), keeps (·.link) (by simp),
    keeps (·.needles) (by simp), keeps (·.tally) (by simp), keeps (·.flags) (by simp), keeps (·.notice) (by simp),
    keeps (·.config) (by simp), keeps (·.comp) (by simp), keeps (·.pending) (by simp), keeps (·.store.mem) (by simp),
    keeps (·.store.free) (by simp), keeps (·.store.dir) (by simp), keeps (·.store.layout) (by simp),
    keeps (·.reports.feeds) (by simp), keeps (·.reports.sequencer) (by simp), keeps (·.reports.consumption) (by simp)⟩

/-- What `pauseDescriptor` leaves. -/
@[simp] theorem pauseDescriptor_frame (s : State) :
    (pauseDescriptor s).line = s.line ∧ (pauseDescriptor s).mgmt = s.mgmt ∧ (pauseDescriptor s).store = s.store ∧
      (pauseDescriptor s).lanes = s.lanes ∧ (pauseDescriptor s).needleSets = s.needleSets ∧
      (pauseDescriptor s).interlock = s.interlock ∧ (pauseDescriptor s).asm = s.asm ∧ (pauseDescriptor s).link = s.link ∧
      (pauseDescriptor s).needles = s.needles ∧ (pauseDescriptor s).tally = s.tally ∧ (pauseDescriptor s).flags = s.flags ∧
      (pauseDescriptor s).notice = s.notice ∧ (pauseDescriptor s).config = s.config ∧ (pauseDescriptor s).comp = s.comp ∧
      (pauseDescriptor s).reports = s.reports ∧ (pauseDescriptor s).pending = s.pending ∧
      (pauseDescriptor s).seq.ring = s.seq.ring ∧ (pauseDescriptor s).seq.ci = s.seq.ci ∧
      (pauseDescriptor s).seq.lvi = s.seq.lvi ∧ (pauseDescriptor s).seq.ciStatus = s.seq.ciStatus ∧
      (pauseDescriptor s).seq.prefetch = s.seq.prefetch ∧ (pauseDescriptor s).seq.current = s.seq.current ∧
      (pauseDescriptor s).seq.serial = s.seq.serial ∧ (pauseDescriptor s).seq.pausePending = s.seq.pausePending ∧
      (pauseDescriptor s).seq.dwell = s.seq.dwell ∧ (pauseDescriptor s).seq.gapRem = s.seq.gapRem ∧
      (pauseDescriptor s).seq.tie = s.seq.tie ∧ (pauseDescriptor s).seq.repeats = s.seq.repeats := by
  unfold pauseDescriptor; split <;> simp

/-- What `enterCounters` leaves. -/
@[simp] theorem enterCounters_frame (p : PanelPhase) (d : Descriptor) (s : State) :
    (enterCounters p d s).line = s.line ∧ (enterCounters p d s).mgmt = s.mgmt ∧ (enterCounters p d s).store = s.store ∧
      (enterCounters p d s).lanes = s.lanes ∧ (enterCounters p d s).needleSets = s.needleSets ∧
      (enterCounters p d s).interlock = s.interlock ∧ (enterCounters p d s).asm = s.asm ∧
      (enterCounters p d s).link = s.link ∧ (enterCounters p d s).needles = s.needles ∧
      (enterCounters p d s).tally = s.tally ∧ (enterCounters p d s).flags = s.flags ∧
      (enterCounters p d s).notice = s.notice ∧ (enterCounters p d s).config = s.config ∧
      (enterCounters p d s).comp = s.comp ∧ (enterCounters p d s).reports = s.reports ∧
      (enterCounters p d s).pending = s.pending ∧ (enterCounters p d s).seq.state = s.seq.state ∧
      (enterCounters p d s).seq.ring = s.seq.ring ∧ (enterCounters p d s).seq.ci = s.seq.ci ∧
      (enterCounters p d s).seq.lvi = s.seq.lvi ∧ (enterCounters p d s).seq.ciStatus = s.seq.ciStatus ∧
      (enterCounters p d s).seq.prefetch = s.seq.prefetch ∧ (enterCounters p d s).seq.current = s.seq.current ∧
      (enterCounters p d s).seq.serial = s.seq.serial ∧ (enterCounters p d s).seq.pausePending = s.seq.pausePending ∧
      (enterCounters p d s).seq.dwell = s.seq.dwell := by
  unfold enterCounters; split <;> simp

/-- What `recordFault` leaves. -/
@[simp] theorem recordFault_frame (target : RingIndex) (s : State) :
    (recordFault target s).line = s.line ∧ (recordFault target s).mgmt = s.mgmt ∧ (recordFault target s).store = s.store ∧
      (recordFault target s).lanes = s.lanes ∧ (recordFault target s).needleSets = s.needleSets ∧
      (recordFault target s).interlock = s.interlock ∧ (recordFault target s).asm = s.asm ∧
      (recordFault target s).link = s.link ∧ (recordFault target s).needles = s.needles ∧
      (recordFault target s).tally = s.tally ∧ (recordFault target s).notice = s.notice ∧
      (recordFault target s).config = s.config ∧ (recordFault target s).comp = s.comp ∧
      (recordFault target s).reports = s.reports ∧ (recordFault target s).pending = s.pending ∧
      (recordFault target s).seq.state = s.seq.state ∧ (recordFault target s).seq.ring = s.seq.ring ∧
      (recordFault target s).seq.ci = s.seq.ci ∧ (recordFault target s).seq.lvi = s.seq.lvi ∧
      (recordFault target s).seq.ciStatus = s.seq.ciStatus ∧ (recordFault target s).seq.phase = s.seq.phase ∧
      (recordFault target s).seq.current = s.seq.current ∧ (recordFault target s).seq.serial = s.seq.serial ∧
      (recordFault target s).seq.pausePending = s.seq.pausePending ∧ (recordFault target s).seq.dwell = s.seq.dwell ∧
      (recordFault target s).seq.gapRem = s.seq.gapRem ∧ (recordFault target s).seq.tie = s.seq.tie ∧
      (recordFault target s).seq.repeats = s.seq.repeats := by
  simp [recordFault]

/-- What `attemptHeld` leaves. -/
@[simp] theorem attemptHeld_frame (s : State) :
    (attemptHeld s).line = s.line ∧ (attemptHeld s).mgmt = s.mgmt ∧ (attemptHeld s).lanes = s.lanes ∧
      (attemptHeld s).needleSets = s.needleSets ∧ (attemptHeld s).interlock = s.interlock ∧ (attemptHeld s).asm = s.asm ∧
      (attemptHeld s).link = s.link ∧ (attemptHeld s).needles = s.needles ∧ (attemptHeld s).tally = s.tally ∧
      (attemptHeld s).notice = s.notice ∧ (attemptHeld s).config = s.config ∧ (attemptHeld s).comp = s.comp ∧
      (attemptHeld s).reports = s.reports ∧ (attemptHeld s).pending = s.pending ∧ (attemptHeld s).store.mem = s.store.mem ∧
      (attemptHeld s).store.free = s.store.free ∧ (attemptHeld s).store.layout = s.store.layout ∧
      (attemptHeld s).seq.state = s.seq.state ∧ (attemptHeld s).seq.ring = s.seq.ring ∧ (attemptHeld s).seq.ci = s.seq.ci ∧
      (attemptHeld s).seq.lvi = s.seq.lvi ∧ (attemptHeld s).seq.ciStatus = s.seq.ciStatus ∧
      (attemptHeld s).seq.phase = s.seq.phase ∧ (attemptHeld s).seq.current = s.seq.current ∧
      (attemptHeld s).seq.serial = s.seq.serial ∧ (attemptHeld s).seq.pausePending = s.seq.pausePending ∧
      (attemptHeld s).seq.dwell = s.seq.dwell ∧ (attemptHeld s).seq.gapRem = s.seq.gapRem ∧
      (attemptHeld s).seq.tie = s.seq.tie ∧ (attemptHeld s).seq.repeats = s.seq.repeats := by
  simp only [attemptHeld]; (repeat' split) <;> simp

/-- What `enterPhase` leaves. -/
@[simp] theorem enterPhase_frame (p : PanelPhase) (d : Descriptor) (s : State) :
    (enterPhase p d s).line = s.line ∧ (enterPhase p d s).mgmt = s.mgmt ∧ (enterPhase p d s).lanes = s.lanes ∧
      (enterPhase p d s).needleSets = s.needleSets ∧ (enterPhase p d s).interlock = s.interlock ∧
      (enterPhase p d s).asm = s.asm ∧ (enterPhase p d s).link = s.link ∧ (enterPhase p d s).needles = s.needles ∧
      (enterPhase p d s).tally = s.tally ∧ (enterPhase p d s).notice = s.notice ∧ (enterPhase p d s).config = s.config ∧
      (enterPhase p d s).comp = s.comp ∧ (enterPhase p d s).reports = s.reports ∧ (enterPhase p d s).pending = s.pending ∧
      (enterPhase p d s).store.mem = s.store.mem ∧ (enterPhase p d s).store.free = s.store.free ∧
      (enterPhase p d s).store.layout = s.store.layout ∧ (enterPhase p d s).seq.state = s.seq.state ∧
      (enterPhase p d s).seq.ring = s.seq.ring ∧ (enterPhase p d s).seq.ci = s.seq.ci ∧
      (enterPhase p d s).seq.lvi = s.seq.lvi ∧ (enterPhase p d s).seq.ciStatus = s.seq.ciStatus ∧
      (enterPhase p d s).seq.current = s.seq.current ∧ (enterPhase p d s).seq.serial = s.seq.serial ∧
      (enterPhase p d s).seq.pausePending = s.seq.pausePending ∧ (enterPhase p d s).seq.dwell = s.seq.dwell := by
  simp only [enterPhase]; (repeat' split) <;> simp

/-- What `makeCurrent` leaves. -/
@[simp] theorem makeCurrent_frame (ctx : Context) (slot : RingIndex) (s : State) :
    (makeCurrent ctx slot s).line = s.line ∧ (makeCurrent ctx slot s).mgmt = s.mgmt ∧
      (makeCurrent ctx slot s).needleSets = s.needleSets ∧ (makeCurrent ctx slot s).interlock = s.interlock ∧
      (makeCurrent ctx slot s).asm = s.asm ∧ (makeCurrent ctx slot s).link = s.link ∧
      (makeCurrent ctx slot s).needles = s.needles ∧ (makeCurrent ctx slot s).tally = s.tally ∧
      (makeCurrent ctx slot s).notice = s.notice ∧ (makeCurrent ctx slot s).config = s.config ∧
      (makeCurrent ctx slot s).comp = s.comp ∧ (makeCurrent ctx slot s).pending = s.pending ∧
      (makeCurrent ctx slot s).store.mem = s.store.mem ∧ (makeCurrent ctx slot s).store.free = s.store.free ∧
      (makeCurrent ctx slot s).store.layout = s.store.layout ∧ (makeCurrent ctx slot s).seq.state = s.seq.state ∧
      (makeCurrent ctx slot s).seq.ring = s.seq.ring ∧ (makeCurrent ctx slot s).seq.lvi = s.seq.lvi ∧
      (makeCurrent ctx slot s).seq.pausePending = s.seq.pausePending ∧ (makeCurrent ctx slot s).seq.dwell = s.seq.dwell ∧
      (makeCurrent ctx slot s).reports.feeds = s.reports.feeds ∧
      (makeCurrent ctx slot s).reports.sequencer = s.reports.sequencer ∧
      (makeCurrent ctx slot s).reports.consumption = s.reports.consumption := by
  simp [makeCurrent]

/-- What `attemptStart` leaves. -/
@[simp] theorem attemptStart_frame (s : State) :
    (attemptStart s).line = s.line ∧ (attemptStart s).mgmt = s.mgmt ∧ (attemptStart s).needleSets = s.needleSets ∧
      (attemptStart s).interlock = s.interlock ∧ (attemptStart s).asm = s.asm ∧ (attemptStart s).link = s.link ∧
      (attemptStart s).needles = s.needles ∧ (attemptStart s).tally = s.tally ∧ (attemptStart s).notice = s.notice ∧
      (attemptStart s).config = s.config ∧ (attemptStart s).comp = s.comp ∧ (attemptStart s).pending = s.pending ∧
      (attemptStart s).store.mem = s.store.mem ∧ (attemptStart s).store.free = s.store.free ∧
      (attemptStart s).store.layout = s.store.layout ∧ (attemptStart s).seq.ring = s.seq.ring ∧
      (attemptStart s).seq.lvi = s.seq.lvi ∧ (attemptStart s).seq.pausePending = s.seq.pausePending ∧
      (attemptStart s).seq.dwell = s.seq.dwell ∧ (attemptStart s).reports.feeds = s.reports.feeds ∧
      (attemptStart s).reports.sequencer = s.reports.sequencer ∧
      (attemptStart s).reports.consumption = s.reports.consumption := by
  simp only [attemptStart]; (repeat' split) <;> simp

/-- What `attempt` leaves. -/
@[simp] theorem attempt_frame (s : State) :
    (attempt s).line = s.line ∧ (attempt s).mgmt = s.mgmt ∧ (attempt s).needleSets = s.needleSets ∧
      (attempt s).interlock = s.interlock ∧ (attempt s).asm = s.asm ∧ (attempt s).link = s.link ∧
      (attempt s).needles = s.needles ∧ (attempt s).tally = s.tally ∧ (attempt s).notice = s.notice ∧
      (attempt s).config = s.config ∧ (attempt s).comp = s.comp ∧ (attempt s).pending = s.pending ∧
      (attempt s).store.mem = s.store.mem ∧ (attempt s).store.free = s.store.free ∧
      (attempt s).store.layout = s.store.layout ∧ (attempt s).seq.ring = s.seq.ring ∧ (attempt s).seq.lvi = s.seq.lvi ∧
      (attempt s).seq.pausePending = s.seq.pausePending ∧ (attempt s).seq.dwell = s.seq.dwell ∧
      (attempt s).reports.feeds = s.reports.feeds ∧ (attempt s).reports.sequencer = s.reports.sequencer ∧
      (attempt s).reports.consumption = s.reports.consumption := by
  unfold attempt; split <;> simp

/-- What `retryBlocked` leaves. -/
@[simp] theorem retryBlocked_frame (s : State) :
    (retryBlocked s).line = s.line ∧ (retryBlocked s).mgmt = s.mgmt ∧ (retryBlocked s).needleSets = s.needleSets ∧
      (retryBlocked s).interlock = s.interlock ∧ (retryBlocked s).asm = s.asm ∧ (retryBlocked s).link = s.link ∧
      (retryBlocked s).needles = s.needles ∧ (retryBlocked s).tally = s.tally ∧ (retryBlocked s).notice = s.notice ∧
      (retryBlocked s).config = s.config ∧ (retryBlocked s).comp = s.comp ∧ (retryBlocked s).pending = s.pending ∧
      (retryBlocked s).store.mem = s.store.mem ∧ (retryBlocked s).store.free = s.store.free ∧
      (retryBlocked s).store.layout = s.store.layout ∧ (retryBlocked s).seq.ring = s.seq.ring ∧
      (retryBlocked s).seq.lvi = s.seq.lvi ∧ (retryBlocked s).seq.pausePending = s.seq.pausePending ∧
      (retryBlocked s).seq.dwell = s.seq.dwell ∧ (retryBlocked s).reports.feeds = s.reports.feeds ∧
      (retryBlocked s).reports.sequencer = s.reports.sequencer ∧
      (retryBlocked s).reports.consumption = s.reports.consumption := by
  unfold retryBlocked; split <;> simp

/-- What `enterWait` leaves. -/
@[simp] theorem enterWait_frame (s : State) :
    (enterWait s).line = s.line ∧ (enterWait s).mgmt = s.mgmt ∧ (enterWait s).store = s.store ∧
      (enterWait s).lanes = s.lanes ∧ (enterWait s).needleSets = s.needleSets ∧ (enterWait s).interlock = s.interlock ∧
      (enterWait s).asm = s.asm ∧ (enterWait s).link = s.link ∧ (enterWait s).needles = s.needles ∧
      (enterWait s).tally = s.tally ∧ (enterWait s).notice = s.notice ∧ (enterWait s).config = s.config ∧
      (enterWait s).comp = s.comp ∧ (enterWait s).reports = s.reports ∧ (enterWait s).pending = s.pending ∧
      (enterWait s).seq.state = s.seq.state ∧ (enterWait s).seq.ring = s.seq.ring ∧ (enterWait s).seq.ci = s.seq.ci ∧
      (enterWait s).seq.lvi = s.seq.lvi ∧ (enterWait s).seq.ciStatus = s.seq.ciStatus ∧
      (enterWait s).seq.prefetch = s.seq.prefetch ∧ (enterWait s).seq.current = s.seq.current ∧
      (enterWait s).seq.serial = s.seq.serial ∧ (enterWait s).seq.pausePending = s.seq.pausePending ∧
      (enterWait s).seq.dwell = s.seq.dwell ∧ (enterWait s).seq.gapRem = s.seq.gapRem ∧ (enterWait s).seq.tie = s.seq.tie ∧
      (enterWait s).seq.repeats = s.seq.repeats := by
  simp [enterWait]

/-- What `attemptOrWait` leaves. -/
@[simp] theorem attemptOrWait_frame (s : State) :
    (attemptOrWait s).line = s.line ∧ (attemptOrWait s).mgmt = s.mgmt ∧ (attemptOrWait s).needleSets = s.needleSets ∧
      (attemptOrWait s).interlock = s.interlock ∧ (attemptOrWait s).asm = s.asm ∧ (attemptOrWait s).link = s.link ∧
      (attemptOrWait s).needles = s.needles ∧ (attemptOrWait s).tally = s.tally ∧ (attemptOrWait s).notice = s.notice ∧
      (attemptOrWait s).config = s.config ∧ (attemptOrWait s).comp = s.comp ∧ (attemptOrWait s).pending = s.pending ∧
      (attemptOrWait s).store.mem = s.store.mem ∧ (attemptOrWait s).store.free = s.store.free ∧
      (attemptOrWait s).store.layout = s.store.layout ∧ (attemptOrWait s).seq.ring = s.seq.ring ∧
      (attemptOrWait s).seq.lvi = s.seq.lvi ∧ (attemptOrWait s).seq.pausePending = s.seq.pausePending ∧
      (attemptOrWait s).seq.dwell = s.seq.dwell ∧ (attemptOrWait s).reports.feeds = s.reports.feeds ∧
      (attemptOrWait s).reports.sequencer = s.reports.sequencer ∧
      (attemptOrWait s).reports.consumption = s.reports.consumption := by
  simp only [attemptOrWait]; (repeat' split) <;> simp

/-- What `enterDrained` leaves. -/
@[simp] theorem enterDrained_frame (s : State) :
    (enterDrained s).line = s.line ∧ (enterDrained s).mgmt = s.mgmt ∧ (enterDrained s).store = s.store ∧
      (enterDrained s).lanes = s.lanes ∧ (enterDrained s).needleSets = s.needleSets ∧
      (enterDrained s).interlock = s.interlock ∧ (enterDrained s).asm = s.asm ∧ (enterDrained s).link = s.link ∧
      (enterDrained s).needles = s.needles ∧ (enterDrained s).tally = s.tally ∧ (enterDrained s).notice = s.notice ∧
      (enterDrained s).config = s.config ∧ (enterDrained s).comp = s.comp ∧ (enterDrained s).reports = s.reports ∧
      (enterDrained s).pending = s.pending ∧ (enterDrained s).seq.ring = s.seq.ring ∧ (enterDrained s).seq.ci = s.seq.ci ∧
      (enterDrained s).seq.lvi = s.seq.lvi ∧ (enterDrained s).seq.ciStatus = s.seq.ciStatus ∧
      (enterDrained s).seq.prefetch = s.seq.prefetch ∧ (enterDrained s).seq.current = s.seq.current ∧
      (enterDrained s).seq.serial = s.seq.serial ∧ (enterDrained s).seq.pausePending = s.seq.pausePending ∧
      (enterDrained s).seq.dwell = s.seq.dwell ∧ (enterDrained s).seq.gapRem = s.seq.gapRem ∧
      (enterDrained s).seq.tie = s.seq.tie ∧ (enterDrained s).seq.repeats = s.seq.repeats := by
  simp [enterDrained]

/-- What `takeHeld` leaves. -/
@[simp] theorem takeHeld_frame (s : State) :
    (takeHeld s).line = s.line ∧ (takeHeld s).mgmt = s.mgmt ∧ (takeHeld s).needleSets = s.needleSets ∧
      (takeHeld s).interlock = s.interlock ∧ (takeHeld s).asm = s.asm ∧ (takeHeld s).link = s.link ∧
      (takeHeld s).needles = s.needles ∧ (takeHeld s).tally = s.tally ∧ (takeHeld s).notice = s.notice ∧
      (takeHeld s).config = s.config ∧ (takeHeld s).comp = s.comp ∧ (takeHeld s).pending = s.pending ∧
      (takeHeld s).store.mem = s.store.mem ∧ (takeHeld s).store.free = s.store.free ∧
      (takeHeld s).store.layout = s.store.layout ∧ (takeHeld s).seq.state = s.seq.state ∧
      (takeHeld s).seq.ring = s.seq.ring ∧ (takeHeld s).seq.lvi = s.seq.lvi ∧
      (takeHeld s).seq.pausePending = s.seq.pausePending ∧ (takeHeld s).seq.dwell = s.seq.dwell ∧
      (takeHeld s).reports.feeds = s.reports.feeds ∧ (takeHeld s).reports.sequencer = s.reports.sequencer ∧
      (takeHeld s).reports.consumption = s.reports.consumption := by
  unfold takeHeld; split <;> simp

/-- What `waitAtCompletion` leaves. -/
@[simp] theorem waitAtCompletion_frame (s : State) :
    (waitAtCompletion s).line = s.line ∧ (waitAtCompletion s).mgmt = s.mgmt ∧
      (waitAtCompletion s).needleSets = s.needleSets ∧ (waitAtCompletion s).interlock = s.interlock ∧
      (waitAtCompletion s).asm = s.asm ∧ (waitAtCompletion s).link = s.link ∧ (waitAtCompletion s).needles = s.needles ∧
      (waitAtCompletion s).tally = s.tally ∧ (waitAtCompletion s).notice = s.notice ∧
      (waitAtCompletion s).config = s.config ∧ (waitAtCompletion s).comp = s.comp ∧
      (waitAtCompletion s).pending = s.pending ∧ (waitAtCompletion s).store.mem = s.store.mem ∧
      (waitAtCompletion s).store.free = s.store.free ∧ (waitAtCompletion s).store.layout = s.store.layout ∧
      (waitAtCompletion s).seq.ring = s.seq.ring ∧ (waitAtCompletion s).seq.lvi = s.seq.lvi ∧
      (waitAtCompletion s).seq.pausePending = s.seq.pausePending ∧ (waitAtCompletion s).seq.dwell = s.seq.dwell ∧
      (waitAtCompletion s).reports.feeds = s.reports.feeds ∧ (waitAtCompletion s).reports.sequencer = s.reports.sequencer ∧
      (waitAtCompletion s).reports.consumption = s.reports.consumption := by
  simp only [waitAtCompletion]; (repeat' split) <;> simp

/-- What `reportKind` leaves. -/
@[simp] theorem reportKind_frame (k : FrameKind) (s : State) :
    (reportKind k s).line = s.line ∧ (reportKind k s).mgmt = s.mgmt ∧ (reportKind k s).store = s.store ∧
      (reportKind k s).lanes = s.lanes ∧ (reportKind k s).needleSets = s.needleSets ∧
      (reportKind k s).interlock = s.interlock ∧ (reportKind k s).asm = s.asm ∧ (reportKind k s).link = s.link ∧
      (reportKind k s).needles = s.needles ∧ (reportKind k s).tally = s.tally ∧ (reportKind k s).notice = s.notice ∧
      (reportKind k s).config = s.config ∧ (reportKind k s).comp = s.comp ∧ (reportKind k s).reports = s.reports ∧
      (reportKind k s).pending = s.pending ∧ (reportKind k s).seq.ring = s.seq.ring ∧ (reportKind k s).seq.ci = s.seq.ci ∧
      (reportKind k s).seq.lvi = s.seq.lvi ∧ (reportKind k s).seq.ciStatus = s.seq.ciStatus ∧
      (reportKind k s).seq.prefetch = s.seq.prefetch ∧ (reportKind k s).seq.phase = s.seq.phase ∧
      (reportKind k s).seq.current = s.seq.current ∧ (reportKind k s).seq.serial = s.seq.serial ∧
      (reportKind k s).seq.pausePending = s.seq.pausePending ∧ (reportKind k s).seq.gapRem = s.seq.gapRem ∧
      (reportKind k s).seq.tie = s.seq.tie ∧ (reportKind k s).seq.repeats = s.seq.repeats := by
  unfold reportKind; (repeat' split) <;> simp

/-- What `doWritePanel` leaves. -/
@[simp] theorem doWritePanel_frame (slot : Byte) (w : PanelWire) (s : State) :
    (doWritePanel slot w s).1.line = s.line ∧ (doWritePanel slot w s).1.mgmt = s.mgmt ∧
      (doWritePanel slot w s).1.needleSets = s.needleSets ∧ (doWritePanel slot w s).1.interlock = s.interlock ∧
      (doWritePanel slot w s).1.asm = s.asm ∧ (doWritePanel slot w s).1.link = s.link ∧
      (doWritePanel slot w s).1.needles = s.needles ∧ (doWritePanel slot w s).1.tally = s.tally ∧
      (doWritePanel slot w s).1.notice = s.notice ∧ (doWritePanel slot w s).1.config = s.config ∧
      (doWritePanel slot w s).1.comp = s.comp ∧ (doWritePanel slot w s).1.pending = s.pending ∧
      (doWritePanel slot w s).1.store.mem = s.store.mem ∧ (doWritePanel slot w s).1.store.free = s.store.free ∧
      (doWritePanel slot w s).1.store.layout = s.store.layout ∧ (doWritePanel slot w s).1.seq.lvi = s.seq.lvi ∧
      (doWritePanel slot w s).1.seq.pausePending = s.seq.pausePending ∧ (doWritePanel slot w s).1.seq.dwell = s.seq.dwell ∧
      (doWritePanel slot w s).1.reports.feeds = s.reports.feeds ∧
      (doWritePanel slot w s).1.reports.sequencer = s.reports.sequencer ∧
      (doWritePanel slot w s).1.reports.consumption = s.reports.consumption := by
  unfold doWritePanel; (repeat' split) <;> simp

/-- What `doReadPanel` leaves. -/
@[simp] theorem doReadPanel_frame (slot : Byte) (s : State) :
    (doReadPanel slot s).1.line = s.line ∧ (doReadPanel slot s).1.mgmt = s.mgmt ∧ (doReadPanel slot s).1.store = s.store ∧
      (doReadPanel slot s).1.seq = s.seq ∧ (doReadPanel slot s).1.lanes = s.lanes ∧
      (doReadPanel slot s).1.needleSets = s.needleSets ∧ (doReadPanel slot s).1.interlock = s.interlock ∧
      (doReadPanel slot s).1.asm = s.asm ∧ (doReadPanel slot s).1.link = s.link ∧
      (doReadPanel slot s).1.needles = s.needles ∧ (doReadPanel slot s).1.tally = s.tally ∧
      (doReadPanel slot s).1.flags = s.flags ∧ (doReadPanel slot s).1.notice = s.notice ∧
      (doReadPanel slot s).1.config = s.config ∧ (doReadPanel slot s).1.comp = s.comp ∧
      (doReadPanel slot s).1.reports = s.reports ∧ (doReadPanel slot s).1.pending = s.pending := by
  unfold doReadPanel; (repeat' split) <;> simp

/-- What `dropExcluded` leaves. -/
@[simp] theorem dropExcluded_frame (s : State) :
    (dropExcluded s).line = s.line ∧ (dropExcluded s).mgmt = s.mgmt ∧ (dropExcluded s).lanes = s.lanes ∧
      (dropExcluded s).needleSets = s.needleSets ∧ (dropExcluded s).interlock = s.interlock ∧ (dropExcluded s).asm = s.asm ∧
      (dropExcluded s).link = s.link ∧ (dropExcluded s).needles = s.needles ∧ (dropExcluded s).tally = s.tally ∧
      (dropExcluded s).flags = s.flags ∧ (dropExcluded s).notice = s.notice ∧ (dropExcluded s).config = s.config ∧
      (dropExcluded s).comp = s.comp ∧ (dropExcluded s).reports = s.reports ∧ (dropExcluded s).pending = s.pending ∧
      (dropExcluded s).store.mem = s.store.mem ∧ (dropExcluded s).store.free = s.store.free ∧
      (dropExcluded s).store.layout = s.store.layout ∧ (dropExcluded s).seq.state = s.seq.state ∧
      (dropExcluded s).seq.ring = s.seq.ring ∧ (dropExcluded s).seq.ci = s.seq.ci ∧ (dropExcluded s).seq.lvi = s.seq.lvi ∧
      (dropExcluded s).seq.ciStatus = s.seq.ciStatus ∧ (dropExcluded s).seq.phase = s.seq.phase ∧
      (dropExcluded s).seq.current = s.seq.current ∧ (dropExcluded s).seq.serial = s.seq.serial ∧
      (dropExcluded s).seq.pausePending = s.seq.pausePending ∧ (dropExcluded s).seq.dwell = s.seq.dwell ∧
      (dropExcluded s).seq.gapRem = s.seq.gapRem ∧ (dropExcluded s).seq.tie = s.seq.tie ∧
      (dropExcluded s).seq.repeats = s.seq.repeats := by
  unfold dropExcluded; split <;> simp

/-- What `setLastRunning` leaves. -/
@[simp] theorem setLastRunning_frame (dropped : Bool) (s : State) :
    (setLastRunning dropped s).line = s.line ∧ (setLastRunning dropped s).mgmt = s.mgmt ∧
      (setLastRunning dropped s).needleSets = s.needleSets ∧ (setLastRunning dropped s).interlock = s.interlock ∧
      (setLastRunning dropped s).asm = s.asm ∧ (setLastRunning dropped s).link = s.link ∧
      (setLastRunning dropped s).needles = s.needles ∧ (setLastRunning dropped s).tally = s.tally ∧
      (setLastRunning dropped s).notice = s.notice ∧ (setLastRunning dropped s).config = s.config ∧
      (setLastRunning dropped s).comp = s.comp ∧ (setLastRunning dropped s).pending = s.pending ∧
      (setLastRunning dropped s).store.mem = s.store.mem ∧ (setLastRunning dropped s).store.free = s.store.free ∧
      (setLastRunning dropped s).store.layout = s.store.layout ∧ (setLastRunning dropped s).seq.ring = s.seq.ring ∧
      (setLastRunning dropped s).seq.lvi = s.seq.lvi ∧ (setLastRunning dropped s).seq.pausePending = s.seq.pausePending ∧
      (setLastRunning dropped s).seq.dwell = s.seq.dwell ∧ (setLastRunning dropped s).reports.feeds = s.reports.feeds ∧
      (setLastRunning dropped s).reports.sequencer = s.reports.sequencer ∧
      (setLastRunning dropped s).reports.consumption = s.reports.consumption := by
  unfold setLastRunning; (repeat' split) <;> simp

/-- What `setLastDrained` leaves. -/
@[simp] theorem setLastDrained_frame (s : State) :
    (setLastDrained s).1.line = s.line ∧ (setLastDrained s).1.mgmt = s.mgmt ∧
      (setLastDrained s).1.needleSets = s.needleSets ∧ (setLastDrained s).1.interlock = s.interlock ∧
      (setLastDrained s).1.asm = s.asm ∧ (setLastDrained s).1.link = s.link ∧ (setLastDrained s).1.needles = s.needles ∧
      (setLastDrained s).1.tally = s.tally ∧ (setLastDrained s).1.notice = s.notice ∧
      (setLastDrained s).1.config = s.config ∧ (setLastDrained s).1.comp = s.comp ∧
      (setLastDrained s).1.pending = s.pending ∧ (setLastDrained s).1.store.mem = s.store.mem ∧
      (setLastDrained s).1.store.free = s.store.free ∧ (setLastDrained s).1.store.layout = s.store.layout ∧
      (setLastDrained s).1.seq.ring = s.seq.ring ∧ (setLastDrained s).1.seq.lvi = s.seq.lvi ∧
      (setLastDrained s).1.seq.pausePending = s.seq.pausePending ∧ (setLastDrained s).1.seq.dwell = s.seq.dwell ∧
      (setLastDrained s).1.reports.feeds = s.reports.feeds ∧ (setLastDrained s).1.reports.sequencer = s.reports.sequencer ∧
      (setLastDrained s).1.reports.consumption = s.reports.consumption := by
  unfold setLastDrained; split <;> simp

/-- What `doSetLast` leaves. -/
@[simp] theorem doSetLast_frame (slot : Byte) (s : State) :
    (doSetLast slot s).1.line = s.line ∧ (doSetLast slot s).1.mgmt = s.mgmt ∧
      (doSetLast slot s).1.needleSets = s.needleSets ∧ (doSetLast slot s).1.interlock = s.interlock ∧
      (doSetLast slot s).1.asm = s.asm ∧ (doSetLast slot s).1.link = s.link ∧ (doSetLast slot s).1.needles = s.needles ∧
      (doSetLast slot s).1.tally = s.tally ∧ (doSetLast slot s).1.notice = s.notice ∧
      (doSetLast slot s).1.config = s.config ∧ (doSetLast slot s).1.comp = s.comp ∧
      (doSetLast slot s).1.pending = s.pending ∧ (doSetLast slot s).1.store.mem = s.store.mem ∧
      (doSetLast slot s).1.store.free = s.store.free ∧ (doSetLast slot s).1.store.layout = s.store.layout ∧
      (doSetLast slot s).1.seq.ring = s.seq.ring ∧ (doSetLast slot s).1.seq.pausePending = s.seq.pausePending ∧
      (doSetLast slot s).1.seq.dwell = s.seq.dwell ∧ (doSetLast slot s).1.reports.feeds = s.reports.feeds ∧
      (doSetLast slot s).1.reports.sequencer = s.reports.sequencer ∧
      (doSetLast slot s).1.reports.consumption = s.reports.consumption := by
  simp only [doSetLast]; (repeat' split) <;> simp

/-- What `resume` leaves. -/
@[simp] theorem resume_frame (s : State) :
    (resume s).line = s.line ∧ (resume s).mgmt = s.mgmt ∧ (resume s).needleSets = s.needleSets ∧
      (resume s).interlock = s.interlock ∧ (resume s).asm = s.asm ∧ (resume s).link = s.link ∧
      (resume s).needles = s.needles ∧ (resume s).tally = s.tally ∧ (resume s).notice = s.notice ∧
      (resume s).config = s.config ∧ (resume s).comp = s.comp ∧ (resume s).pending = s.pending ∧
      (resume s).store.mem = s.store.mem ∧ (resume s).store.free = s.store.free ∧ (resume s).store.layout = s.store.layout ∧
      (resume s).seq.ring = s.seq.ring ∧ (resume s).seq.lvi = s.seq.lvi ∧ (resume s).seq.pausePending = s.seq.pausePending ∧
      (resume s).seq.dwell = s.seq.dwell ∧ (resume s).reports.feeds = s.reports.feeds ∧
      (resume s).reports.sequencer = s.reports.sequencer ∧ (resume s).reports.consumption = s.reports.consumption := by
  unfold resume; (repeat' split) <;> simp

/-- What `doRun` leaves. -/
@[simp] theorem doRun_frame (s : State) :
    (doRun s).1.line = s.line ∧ (doRun s).1.mgmt = s.mgmt ∧ (doRun s).1.needleSets = s.needleSets ∧
      (doRun s).1.interlock = s.interlock ∧ (doRun s).1.asm = s.asm ∧ (doRun s).1.link = s.link ∧
      (doRun s).1.needles = s.needles ∧ (doRun s).1.tally = s.tally ∧ (doRun s).1.notice = s.notice ∧
      (doRun s).1.config = s.config ∧ (doRun s).1.comp = s.comp ∧ (doRun s).1.pending = s.pending ∧
      (doRun s).1.store.mem = s.store.mem ∧ (doRun s).1.store.free = s.store.free ∧
      (doRun s).1.store.layout = s.store.layout ∧ (doRun s).1.seq.ring = s.seq.ring ∧ (doRun s).1.seq.lvi = s.seq.lvi ∧
      (doRun s).1.seq.pausePending = s.seq.pausePending ∧ (doRun s).1.seq.dwell = s.seq.dwell ∧
      (doRun s).1.reports.feeds = s.reports.feeds ∧ (doRun s).1.reports.sequencer = s.reports.sequencer ∧
      (doRun s).1.reports.consumption = s.reports.consumption := by
  unfold doRun; (repeat' split) <;> simp

/-- What `doPause` leaves. -/
@[simp] theorem doPause_frame (s : State) :
    (doPause s).1.line = s.line ∧ (doPause s).1.mgmt = s.mgmt ∧ (doPause s).1.store = s.store ∧
      (doPause s).1.lanes = s.lanes ∧ (doPause s).1.needleSets = s.needleSets ∧ (doPause s).1.interlock = s.interlock ∧
      (doPause s).1.asm = s.asm ∧ (doPause s).1.link = s.link ∧ (doPause s).1.needles = s.needles ∧
      (doPause s).1.tally = s.tally ∧ (doPause s).1.flags = s.flags ∧ (doPause s).1.notice = s.notice ∧
      (doPause s).1.config = s.config ∧ (doPause s).1.comp = s.comp ∧ (doPause s).1.reports = s.reports ∧
      (doPause s).1.pending = s.pending ∧ (doPause s).1.seq.ring = s.seq.ring ∧ (doPause s).1.seq.ci = s.seq.ci ∧
      (doPause s).1.seq.lvi = s.seq.lvi ∧ (doPause s).1.seq.prefetch = s.seq.prefetch ∧
      (doPause s).1.seq.current = s.seq.current ∧ (doPause s).1.seq.serial = s.seq.serial ∧
      (doPause s).1.seq.pausePending = s.seq.pausePending ∧ (doPause s).1.seq.dwell = s.seq.dwell ∧
      (doPause s).1.seq.gapRem = s.seq.gapRem ∧ (doPause s).1.seq.tie = s.seq.tie ∧
      (doPause s).1.seq.repeats = s.seq.repeats := by
  unfold doPause; split <;> simp

/-- What `releaseContexts` leaves. -/
@[simp] theorem releaseContexts_frame (s : State) :
    (releaseContexts s).line = s.line ∧ (releaseContexts s).mgmt = s.mgmt ∧ (releaseContexts s).seq = s.seq ∧
      (releaseContexts s).lanes = s.lanes ∧ (releaseContexts s).needleSets = s.needleSets ∧
      (releaseContexts s).interlock = s.interlock ∧ (releaseContexts s).asm = s.asm ∧ (releaseContexts s).link = s.link ∧
      (releaseContexts s).needles = s.needles ∧ (releaseContexts s).tally = s.tally ∧ (releaseContexts s).flags = s.flags ∧
      (releaseContexts s).notice = s.notice ∧ (releaseContexts s).config = s.config ∧ (releaseContexts s).comp = s.comp ∧
      (releaseContexts s).reports = s.reports ∧ (releaseContexts s).pending = s.pending ∧
      (releaseContexts s).store.mem = s.store.mem ∧ (releaseContexts s).store.free = s.store.free ∧
      (releaseContexts s).store.layout = s.store.layout := by
  unfold releaseContexts; (repeat' split) <;> simp

/-- What `resetQueue` leaves. -/
@[simp] theorem resetQueue_frame (s : State) :
    (resetQueue s).line = s.line ∧ (resetQueue s).mgmt = s.mgmt ∧ (resetQueue s).needleSets = s.needleSets ∧
      (resetQueue s).interlock = s.interlock ∧ (resetQueue s).asm = s.asm ∧ (resetQueue s).link = s.link ∧
      (resetQueue s).needles = s.needles ∧ (resetQueue s).notice = s.notice ∧ (resetQueue s).config = s.config ∧
      (resetQueue s).comp = s.comp ∧ (resetQueue s).pending = s.pending ∧ (resetQueue s).store.mem = s.store.mem ∧
      (resetQueue s).store.free = s.store.free ∧ (resetQueue s).store.layout = s.store.layout ∧
      (resetQueue s).tally.run = s.tally.run ∧ (resetQueue s).tally.selection = s.tally.selection ∧
      (resetQueue s).tally.action = s.tally.action ∧ (resetQueue s).tally.metreValue = s.tally.metreValue ∧
      (resetQueue s).tally.panelValue = s.tally.panelValue ∧ (resetQueue s).tally.panels = s.tally.panels := by
  simp [resetQueue]

/-- `resetQueue` leaves no report in flight to the Sequencer or the Tally Unit. -/
@[simp] theorem resetQueue_reports (s : State) :
    (resetQueue s).reports.feeds = [] ∧ (resetQueue s).reports.sequencer = none := by
  simp [resetQueue]

/-- What `doResetQueue` leaves. -/
@[simp] theorem doResetQueue_frame (s : State) :
    (doResetQueue s).1.line = s.line ∧ (doResetQueue s).1.mgmt = s.mgmt ∧ (doResetQueue s).1.needleSets = s.needleSets ∧
      (doResetQueue s).1.interlock = s.interlock ∧ (doResetQueue s).1.asm = s.asm ∧ (doResetQueue s).1.link = s.link ∧
      (doResetQueue s).1.needles = s.needles ∧ (doResetQueue s).1.notice = s.notice ∧ (doResetQueue s).1.config = s.config ∧
      (doResetQueue s).1.comp = s.comp ∧ (doResetQueue s).1.pending = s.pending ∧
      (doResetQueue s).1.store.mem = s.store.mem ∧ (doResetQueue s).1.store.free = s.store.free ∧
      (doResetQueue s).1.store.layout = s.store.layout ∧ (doResetQueue s).1.tally.run = s.tally.run ∧
      (doResetQueue s).1.tally.selection = s.tally.selection ∧ (doResetQueue s).1.tally.action = s.tally.action ∧
      (doResetQueue s).1.tally.metreValue = s.tally.metreValue ∧ (doResetQueue s).1.tally.panelValue = s.tally.panelValue ∧
      (doResetQueue s).1.tally.panels = s.tally.panels := by
  unfold doResetQueue; split <;> simp

/-- What `patternReady` leaves. -/
@[simp] theorem patternReady_frame (s : State) :
    (patternReady s).line = s.line ∧ (patternReady s).mgmt = s.mgmt ∧ (patternReady s).needleSets = s.needleSets ∧
      (patternReady s).interlock = s.interlock ∧ (patternReady s).asm = s.asm ∧ (patternReady s).link = s.link ∧
      (patternReady s).needles = s.needles ∧ (patternReady s).tally = s.tally ∧ (patternReady s).notice = s.notice ∧
      (patternReady s).config = s.config ∧ (patternReady s).comp = s.comp ∧ (patternReady s).pending = s.pending ∧
      (patternReady s).store.mem = s.store.mem ∧ (patternReady s).store.free = s.store.free ∧
      (patternReady s).store.layout = s.store.layout ∧ (patternReady s).seq.ring = s.seq.ring ∧
      (patternReady s).seq.lvi = s.seq.lvi ∧ (patternReady s).seq.pausePending = s.seq.pausePending ∧
      (patternReady s).seq.dwell = s.seq.dwell ∧ (patternReady s).reports.feeds = s.reports.feeds ∧
      (patternReady s).reports.sequencer = s.reports.sequencer ∧
      (patternReady s).reports.consumption = s.reports.consumption := by
  simp [patternReady]

/-- What `closePanel` leaves. -/
@[simp] theorem closePanel_frame (ctx : Context) (s : State) :
    (closePanel ctx s).line = s.line ∧ (closePanel ctx s).mgmt = s.mgmt ∧ (closePanel ctx s).lanes = s.lanes ∧
      (closePanel ctx s).needleSets = s.needleSets ∧ (closePanel ctx s).interlock = s.interlock ∧
      (closePanel ctx s).asm = s.asm ∧ (closePanel ctx s).link = s.link ∧ (closePanel ctx s).needles = s.needles ∧
      (closePanel ctx s).notice = s.notice ∧ (closePanel ctx s).config = s.config ∧ (closePanel ctx s).comp = s.comp ∧
      (closePanel ctx s).pending = s.pending ∧ (closePanel ctx s).store.mem = s.store.mem ∧
      (closePanel ctx s).store.free = s.store.free ∧ (closePanel ctx s).store.layout = s.store.layout ∧
      (closePanel ctx s).reports.feeds = s.reports.feeds ∧ (closePanel ctx s).reports.sequencer = s.reports.sequencer ∧
      (closePanel ctx s).reports.consumption = s.reports.consumption := by
  simp [closePanel]

end Sys2Proof.Machine
end

