-- ==== Sys2Proof/Laws/PatternsFrames.lean ====
section
/-!
SUPPORT. What each operation of Machine/Patterns.lean leaves as it was: one lemma for each, as rewrite rules.
-/

namespace Sys2Proof.Machine

/-- What `doOpenPattern` leaves. -/
@[simp] theorem doOpenPattern_frame (n pages : Byte) (s : State) :
    (doOpenPattern n pages s).1.line = s.line ∧ (doOpenPattern n pages s).1.mgmt = s.mgmt ∧
      (doOpenPattern n pages s).1.seq = s.seq ∧ (doOpenPattern n pages s).1.lanes = s.lanes ∧
      (doOpenPattern n pages s).1.needleSets = s.needleSets ∧ (doOpenPattern n pages s).1.interlock = s.interlock ∧
      (doOpenPattern n pages s).1.asm = s.asm ∧ (doOpenPattern n pages s).1.link = s.link ∧
      (doOpenPattern n pages s).1.needles = s.needles ∧ (doOpenPattern n pages s).1.tally = s.tally ∧
      (doOpenPattern n pages s).1.flags = s.flags ∧ (doOpenPattern n pages s).1.notice = s.notice ∧
      (doOpenPattern n pages s).1.config = s.config ∧ (doOpenPattern n pages s).1.comp = s.comp ∧
      (doOpenPattern n pages s).1.reports = s.reports ∧ (doOpenPattern n pages s).1.pending = s.pending ∧
      (doOpenPattern n pages s).1.store.mem = s.store.mem := by
  unfold doOpenPattern; (repeat' split) <;> simp

/-- What `requestMgmt` leaves. -/
@[simp] theorem requestMgmt_frame (p : PatternId) (i : Nat) (s : State) :
    (requestMgmt p i s).store.mem = s.store.mem ∧ (requestMgmt p i s).store.free = s.store.free ∧
      (requestMgmt p i s).store.dir = s.store.dir ∧ (requestMgmt p i s).store.layout = s.store.layout := by
  simp [requestMgmt]

/-- What `doAppendSegments` leaves. -/
@[simp] theorem doAppendSegments_frame (n : Byte) (first : Half) (records : List SegmentWire) (s : State) :
    (doAppendSegments n first records s).1.store.mem = s.store.mem ∧
      (doAppendSegments n first records s).1.store.free = s.store.free ∧
      (doAppendSegments n first records s).1.store.dir = s.store.dir ∧
      (doAppendSegments n first records s).1.store.layout = s.store.layout := by
  unfold doAppendSegments; (repeat' split) <;> simp

/-- What `doClosePattern` leaves. -/
@[simp] theorem doClosePattern_frame (n : Byte) (s : State) :
    (doClosePattern n s).1.line = s.line ∧ (doClosePattern n s).1.mgmt = s.mgmt ∧
      (doClosePattern n s).1.needleSets = s.needleSets ∧ (doClosePattern n s).1.interlock = s.interlock ∧
      (doClosePattern n s).1.asm = s.asm ∧ (doClosePattern n s).1.link = s.link ∧
      (doClosePattern n s).1.needles = s.needles ∧ (doClosePattern n s).1.tally = s.tally ∧
      (doClosePattern n s).1.notice = s.notice ∧ (doClosePattern n s).1.config = s.config ∧
      (doClosePattern n s).1.comp = s.comp ∧ (doClosePattern n s).1.pending = s.pending ∧
      (doClosePattern n s).1.store.mem = s.store.mem ∧ (doClosePattern n s).1.store.free = s.store.free ∧
      (doClosePattern n s).1.seq.ring = s.seq.ring ∧ (doClosePattern n s).1.seq.lvi = s.seq.lvi ∧
      (doClosePattern n s).1.seq.pausePending = s.seq.pausePending ∧ (doClosePattern n s).1.seq.dwell = s.seq.dwell ∧
      (doClosePattern n s).1.reports.feeds = s.reports.feeds ∧
      (doClosePattern n s).1.reports.sequencer = s.reports.sequencer ∧
      (doClosePattern n s).1.reports.consumption = s.reports.consumption := by
  simp only [doClosePattern]; (repeat' split) <;> simp

/-- What `doFreePattern` leaves. -/
@[simp] theorem doFreePattern_frame (n : Byte) (s : State) :
    (doFreePattern n s).1.line = s.line ∧ (doFreePattern n s).1.mgmt = s.mgmt ∧ (doFreePattern n s).1.seq = s.seq ∧
      (doFreePattern n s).1.lanes = s.lanes ∧ (doFreePattern n s).1.needleSets = s.needleSets ∧
      (doFreePattern n s).1.interlock = s.interlock ∧ (doFreePattern n s).1.asm = s.asm ∧
      (doFreePattern n s).1.link = s.link ∧ (doFreePattern n s).1.needles = s.needles ∧
      (doFreePattern n s).1.tally = s.tally ∧ (doFreePattern n s).1.flags = s.flags ∧
      (doFreePattern n s).1.notice = s.notice ∧ (doFreePattern n s).1.config = s.config ∧
      (doFreePattern n s).1.comp = s.comp ∧ (doFreePattern n s).1.reports = s.reports ∧
      (doFreePattern n s).1.pending = s.pending ∧ (doFreePattern n s).1.store.mem = s.store.mem := by
  simp only [doFreePattern]; (repeat' split) <;> simp

/-- What `doGetPattern` leaves. -/
@[simp] theorem doGetPattern_frame (n : Byte) (s : State) :
    (doGetPattern n s).1.line = s.line ∧ (doGetPattern n s).1.mgmt = s.mgmt ∧ (doGetPattern n s).1.store = s.store ∧
      (doGetPattern n s).1.seq = s.seq ∧ (doGetPattern n s).1.lanes = s.lanes ∧
      (doGetPattern n s).1.needleSets = s.needleSets ∧ (doGetPattern n s).1.interlock = s.interlock ∧
      (doGetPattern n s).1.asm = s.asm ∧ (doGetPattern n s).1.link = s.link ∧ (doGetPattern n s).1.needles = s.needles ∧
      (doGetPattern n s).1.tally = s.tally ∧ (doGetPattern n s).1.flags = s.flags ∧ (doGetPattern n s).1.notice = s.notice ∧
      (doGetPattern n s).1.config = s.config ∧ (doGetPattern n s).1.comp = s.comp ∧
      (doGetPattern n s).1.reports = s.reports ∧ (doGetPattern n s).1.pending = s.pending := by
  unfold doGetPattern; split <;> simp

/-- What `doReadSegments` leaves. -/
@[simp] theorem doReadSegments_frame (n : Byte) (first : Half) (number : Byte) (s : State) :
    (doReadSegments n first number s).1.store.mem = s.store.mem ∧
      (doReadSegments n first number s).1.store.free = s.store.free ∧
      (doReadSegments n first number s).1.store.dir = s.store.dir ∧
      (doReadSegments n first number s).1.store.layout = s.store.layout := by
  simp only [doReadSegments]; (repeat' split) <;> simp

/-- What `finishAppend` leaves. -/
@[simp] theorem finishAppend_frame (p : PatternId) (written : List Segment) (clamped : Bool) (s : State) :
    (finishAppend p written clamped s).seq = s.seq ∧ (finishAppend p written clamped s).lanes = s.lanes ∧
      (finishAppend p written clamped s).needleSets = s.needleSets ∧
      (finishAppend p written clamped s).interlock = s.interlock ∧ (finishAppend p written clamped s).asm = s.asm ∧
      (finishAppend p written clamped s).link = s.link ∧ (finishAppend p written clamped s).needles = s.needles ∧
      (finishAppend p written clamped s).tally = s.tally ∧ (finishAppend p written clamped s).flags = s.flags ∧
      (finishAppend p written clamped s).notice = s.notice ∧ (finishAppend p written clamped s).config = s.config ∧
      (finishAppend p written clamped s).comp = s.comp ∧ (finishAppend p written clamped s).reports = s.reports ∧
      (finishAppend p written clamped s).pending = s.pending ∧ (finishAppend p written clamped s).line.mode = s.line.mode ∧
      (finishAppend p written clamped s).line.receiver = s.line.receiver ∧
      (finishAppend p written clamped s).line.lastSeq = s.line.lastSeq ∧
      (finishAppend p written clamped s).line.latest = s.line.latest ∧
      (finishAppend p written clamped s).store.mem = s.store.mem ∧
      (finishAppend p written clamped s).store.free = s.store.free := by
  simp [finishAppend]

/-- What `stepAppend` leaves. -/
@[simp] theorem stepAppend_frame (p : PatternId) (written : List Segment) (g : Segment) (rest : List Segment) (clamped : Bool) (addr : Nat) (s : State) :
    (stepAppend p written g rest clamped addr s).store.free = s.store.free := by
  (simp only [stepAppend]; (repeat' split) <;> simp)

/-- What `stepRead` leaves. -/
@[simp] theorem stepRead_frame (p : PatternId) (next left : Nat) (got : List Segment) (short : Bool) (addr : Nat) (s : State) :
    (stepRead p next left got short addr s).store.mem = s.store.mem ∧
      (stepRead p next left got short addr s).store.free = s.store.free ∧
      (stepRead p next left got short addr s).store.dir = s.store.dir ∧
      (stepRead p next left got short addr s).store.layout = s.store.layout := by
  unfold stepRead; split <;> simp

/-- What `completeMgmt` leaves. -/
@[simp] theorem completeMgmt_frame (s : State) :
    (completeMgmt s).store.free = s.store.free := by
  (simp only [completeMgmt]; (repeat' split) <;> simp)

end Sys2Proof.Machine
end

