-- ==== Sys2Proof/Laws/TablesFrames.lean ====
section
/-!
SUPPORT. What each operation of Machine/Tables.lean leaves as it was: one lemma for each, as rewrite rules.
-/

namespace Sys2Proof.Machine

/-- What `doSetNeedleSet` leaves. -/
@[simp] theorem doSetNeedleSet_frame (k : Byte) (needles : NeedleSet) (s : State) :
    (doSetNeedleSet k needles s).1.line = s.line ∧ (doSetNeedleSet k needles s).1.mgmt = s.mgmt ∧
      (doSetNeedleSet k needles s).1.store = s.store ∧ (doSetNeedleSet k needles s).1.seq = s.seq ∧
      (doSetNeedleSet k needles s).1.lanes = s.lanes ∧ (doSetNeedleSet k needles s).1.interlock = s.interlock ∧
      (doSetNeedleSet k needles s).1.asm = s.asm ∧ (doSetNeedleSet k needles s).1.link = s.link ∧
      (doSetNeedleSet k needles s).1.needles = s.needles ∧ (doSetNeedleSet k needles s).1.tally = s.tally ∧
      (doSetNeedleSet k needles s).1.flags = s.flags ∧ (doSetNeedleSet k needles s).1.notice = s.notice ∧
      (doSetNeedleSet k needles s).1.config = s.config ∧ (doSetNeedleSet k needles s).1.comp = s.comp ∧
      (doSetNeedleSet k needles s).1.reports = s.reports ∧ (doSetNeedleSet k needles s).1.pending = s.pending := by
  unfold doSetNeedleSet; split <;> simp

/-- What `doGetNeedleSet` leaves. -/
@[simp] theorem doGetNeedleSet_frame (k : Byte) (s : State) :
    (doGetNeedleSet k s).1.line = s.line ∧ (doGetNeedleSet k s).1.mgmt = s.mgmt ∧ (doGetNeedleSet k s).1.store = s.store ∧
      (doGetNeedleSet k s).1.seq = s.seq ∧ (doGetNeedleSet k s).1.lanes = s.lanes ∧
      (doGetNeedleSet k s).1.needleSets = s.needleSets ∧ (doGetNeedleSet k s).1.interlock = s.interlock ∧
      (doGetNeedleSet k s).1.asm = s.asm ∧ (doGetNeedleSet k s).1.link = s.link ∧
      (doGetNeedleSet k s).1.needles = s.needles ∧ (doGetNeedleSet k s).1.tally = s.tally ∧
      (doGetNeedleSet k s).1.flags = s.flags ∧ (doGetNeedleSet k s).1.notice = s.notice ∧
      (doGetNeedleSet k s).1.config = s.config ∧ (doGetNeedleSet k s).1.comp = s.comp ∧
      (doGetNeedleSet k s).1.reports = s.reports ∧ (doGetNeedleSet k s).1.pending = s.pending := by
  unfold doGetNeedleSet; split <;> simp

/-- What `doGetLane` leaves. -/
@[simp] theorem doGetLane_frame (lane : Byte) (s : State) :
    (doGetLane lane s).1.line = s.line ∧ (doGetLane lane s).1.mgmt = s.mgmt ∧ (doGetLane lane s).1.store = s.store ∧
      (doGetLane lane s).1.seq = s.seq ∧ (doGetLane lane s).1.lanes = s.lanes ∧
      (doGetLane lane s).1.needleSets = s.needleSets ∧ (doGetLane lane s).1.interlock = s.interlock ∧
      (doGetLane lane s).1.asm = s.asm ∧ (doGetLane lane s).1.link = s.link ∧ (doGetLane lane s).1.needles = s.needles ∧
      (doGetLane lane s).1.tally = s.tally ∧ (doGetLane lane s).1.flags = s.flags ∧ (doGetLane lane s).1.notice = s.notice ∧
      (doGetLane lane s).1.config = s.config ∧ (doGetLane lane s).1.comp = s.comp ∧
      (doGetLane lane s).1.reports = s.reports ∧ (doGetLane lane s).1.pending = s.pending := by
  unfold doGetLane; split <;> simp

/-- What `doSetInterlock` leaves. -/
@[simp] theorem doSetInterlock_frame (before built rests : Byte) (s : State) :
    (doSetInterlock before built rests s).1.line = s.line ∧ (doSetInterlock before built rests s).1.mgmt = s.mgmt ∧
      (doSetInterlock before built rests s).1.store = s.store ∧ (doSetInterlock before built rests s).1.seq = s.seq ∧
      (doSetInterlock before built rests s).1.lanes = s.lanes ∧
      (doSetInterlock before built rests s).1.needleSets = s.needleSets ∧
      (doSetInterlock before built rests s).1.asm = s.asm ∧ (doSetInterlock before built rests s).1.link = s.link ∧
      (doSetInterlock before built rests s).1.needles = s.needles ∧ (doSetInterlock before built rests s).1.tally = s.tally ∧
      (doSetInterlock before built rests s).1.flags = s.flags ∧ (doSetInterlock before built rests s).1.notice = s.notice ∧
      (doSetInterlock before built rests s).1.config = s.config ∧ (doSetInterlock before built rests s).1.comp = s.comp ∧
      (doSetInterlock before built rests s).1.reports = s.reports ∧
      (doSetInterlock before built rests s).1.pending = s.pending := by
  unfold doSetInterlock; split <;> simp

/-- What `doSetBand` leaves. -/
@[simp] theorem doSetBand_frame (row : Byte) (ceiling : Half) (dmax : Vector Half 4) (s : State) :
    (doSetBand row ceiling dmax s).1.line = s.line ∧ (doSetBand row ceiling dmax s).1.mgmt = s.mgmt ∧
      (doSetBand row ceiling dmax s).1.store = s.store ∧ (doSetBand row ceiling dmax s).1.seq = s.seq ∧
      (doSetBand row ceiling dmax s).1.lanes = s.lanes ∧ (doSetBand row ceiling dmax s).1.needleSets = s.needleSets ∧
      (doSetBand row ceiling dmax s).1.interlock = s.interlock ∧ (doSetBand row ceiling dmax s).1.link = s.link ∧
      (doSetBand row ceiling dmax s).1.needles = s.needles ∧ (doSetBand row ceiling dmax s).1.tally = s.tally ∧
      (doSetBand row ceiling dmax s).1.flags = s.flags ∧ (doSetBand row ceiling dmax s).1.notice = s.notice ∧
      (doSetBand row ceiling dmax s).1.config = s.config ∧ (doSetBand row ceiling dmax s).1.comp = s.comp ∧
      (doSetBand row ceiling dmax s).1.reports = s.reports ∧ (doSetBand row ceiling dmax s).1.pending = s.pending ∧
      (doSetBand row ceiling dmax s).1.asm.selection = s.asm.selection ∧
      (doSetBand row ceiling dmax s).1.asm.pos = s.asm.pos ∧
      (doSetBand row ceiling dmax s).1.asm.carryPending = s.asm.carryPending ∧
      (doSetBand row ceiling dmax s).1.asm.history = s.asm.history := by
  unfold doSetBand; split <;> simp

/-- What `doSetSlotMap` leaves. -/
@[simp] theorem doSetSlotMap_frame (slots : Vector Byte 4) (feed : Byte) (s : State) :
    (doSetSlotMap slots feed s).1.line = s.line ∧ (doSetSlotMap slots feed s).1.mgmt = s.mgmt ∧
      (doSetSlotMap slots feed s).1.store = s.store ∧ (doSetSlotMap slots feed s).1.seq = s.seq ∧
      (doSetSlotMap slots feed s).1.lanes = s.lanes ∧ (doSetSlotMap slots feed s).1.needleSets = s.needleSets ∧
      (doSetSlotMap slots feed s).1.interlock = s.interlock ∧ (doSetSlotMap slots feed s).1.asm = s.asm ∧
      (doSetSlotMap slots feed s).1.needles = s.needles ∧ (doSetSlotMap slots feed s).1.tally = s.tally ∧
      (doSetSlotMap slots feed s).1.flags = s.flags ∧ (doSetSlotMap slots feed s).1.notice = s.notice ∧
      (doSetSlotMap slots feed s).1.config = s.config ∧ (doSetSlotMap slots feed s).1.comp = s.comp ∧
      (doSetSlotMap slots feed s).1.reports = s.reports ∧ (doSetSlotMap slots feed s).1.pending = s.pending ∧
      (doSetSlotMap slots feed s).1.link.state = s.link.state ∧
      (doSetSlotMap slots feed s).1.link.presence = s.link.presence ∧
      (doSetSlotMap slots feed s).1.link.limits = s.link.limits ∧
      (doSetSlotMap slots feed s).1.link.wakeCount = s.link.wakeCount ∧
      (doSetSlotMap slots feed s).1.link.marker = s.link.marker ∧ (doSetSlotMap slots feed s).1.link.query = s.link.query ∧
      (doSetSlotMap slots feed s).1.link.out = s.link.out ∧
      (doSetSlotMap slots feed s).1.link.receiver = s.link.receiver := by
  unfold doSetSlotMap; (repeat' split) <;> simp

/-- What `doSetPresence` leaves. -/
@[simp] theorem doSetPresence_frame (lane : Byte) (needles : NeedleSet) (s : State) :
    (doSetPresence lane needles s).1.line = s.line ∧ (doSetPresence lane needles s).1.mgmt = s.mgmt ∧
      (doSetPresence lane needles s).1.store = s.store ∧ (doSetPresence lane needles s).1.seq = s.seq ∧
      (doSetPresence lane needles s).1.lanes = s.lanes ∧ (doSetPresence lane needles s).1.needleSets = s.needleSets ∧
      (doSetPresence lane needles s).1.interlock = s.interlock ∧ (doSetPresence lane needles s).1.asm = s.asm ∧
      (doSetPresence lane needles s).1.tally = s.tally ∧ (doSetPresence lane needles s).1.flags = s.flags ∧
      (doSetPresence lane needles s).1.notice = s.notice ∧ (doSetPresence lane needles s).1.config = s.config ∧
      (doSetPresence lane needles s).1.comp = s.comp ∧ (doSetPresence lane needles s).1.reports = s.reports ∧
      (doSetPresence lane needles s).1.pending = s.pending ∧ (doSetPresence lane needles s).1.link.state = s.link.state ∧
      (doSetPresence lane needles s).1.link.slotLane = s.link.slotLane ∧
      (doSetPresence lane needles s).1.link.slotFeed = s.link.slotFeed ∧
      (doSetPresence lane needles s).1.link.limits = s.link.limits ∧
      (doSetPresence lane needles s).1.link.wakeCount = s.link.wakeCount ∧
      (doSetPresence lane needles s).1.link.miss = s.link.miss ∧
      (doSetPresence lane needles s).1.link.marker = s.link.marker ∧
      (doSetPresence lane needles s).1.link.query = s.link.query ∧ (doSetPresence lane needles s).1.link.out = s.link.out ∧
      (doSetPresence lane needles s).1.link.receiver = s.link.receiver := by
  unfold doSetPresence; (repeat' split) <;> simp

/-- What `doSetLimits` leaves. -/
@[simp] theorem doSetLimits_frame (lane : Byte) (xmin xmax : Half) (s : State) :
    (doSetLimits lane xmin xmax s).1.line = s.line ∧ (doSetLimits lane xmin xmax s).1.mgmt = s.mgmt ∧
      (doSetLimits lane xmin xmax s).1.store = s.store ∧ (doSetLimits lane xmin xmax s).1.seq = s.seq ∧
      (doSetLimits lane xmin xmax s).1.lanes = s.lanes ∧ (doSetLimits lane xmin xmax s).1.needleSets = s.needleSets ∧
      (doSetLimits lane xmin xmax s).1.interlock = s.interlock ∧ (doSetLimits lane xmin xmax s).1.needles = s.needles ∧
      (doSetLimits lane xmin xmax s).1.tally = s.tally ∧ (doSetLimits lane xmin xmax s).1.flags = s.flags ∧
      (doSetLimits lane xmin xmax s).1.notice = s.notice ∧ (doSetLimits lane xmin xmax s).1.config = s.config ∧
      (doSetLimits lane xmin xmax s).1.comp = s.comp ∧ (doSetLimits lane xmin xmax s).1.reports = s.reports ∧
      (doSetLimits lane xmin xmax s).1.pending = s.pending ∧ (doSetLimits lane xmin xmax s).1.asm.bands = s.asm.bands ∧
      (doSetLimits lane xmin xmax s).1.asm.selection = s.asm.selection ∧
      (doSetLimits lane xmin xmax s).1.asm.history = s.asm.history ∧
      (doSetLimits lane xmin xmax s).1.link.state = s.link.state ∧
      (doSetLimits lane xmin xmax s).1.link.slotLane = s.link.slotLane ∧
      (doSetLimits lane xmin xmax s).1.link.slotFeed = s.link.slotFeed ∧
      (doSetLimits lane xmin xmax s).1.link.presence = s.link.presence ∧
      (doSetLimits lane xmin xmax s).1.link.wakeCount = s.link.wakeCount ∧
      (doSetLimits lane xmin xmax s).1.link.miss = s.link.miss ∧
      (doSetLimits lane xmin xmax s).1.link.marker = s.link.marker ∧
      (doSetLimits lane xmin xmax s).1.link.query = s.link.query ∧ (doSetLimits lane xmin xmax s).1.link.out = s.link.out ∧
      (doSetLimits lane xmin xmax s).1.link.receiver = s.link.receiver := by
  simp only [doSetLimits]; (repeat' split) <;> simp

/-- What `doSetCompensation` leaves. -/
@[simp] theorem doSetCompensation_frame (material : Byte) (sx : Vector Half 4) (sy : Half) (s : State) :
    (doSetCompensation material sx sy s).1.line = s.line ∧ (doSetCompensation material sx sy s).1.mgmt = s.mgmt ∧
      (doSetCompensation material sx sy s).1.store = s.store ∧ (doSetCompensation material sx sy s).1.seq = s.seq ∧
      (doSetCompensation material sx sy s).1.lanes = s.lanes ∧
      (doSetCompensation material sx sy s).1.needleSets = s.needleSets ∧
      (doSetCompensation material sx sy s).1.interlock = s.interlock ∧ (doSetCompensation material sx sy s).1.asm = s.asm ∧
      (doSetCompensation material sx sy s).1.link = s.link ∧ (doSetCompensation material sx sy s).1.needles = s.needles ∧
      (doSetCompensation material sx sy s).1.tally = s.tally ∧ (doSetCompensation material sx sy s).1.flags = s.flags ∧
      (doSetCompensation material sx sy s).1.notice = s.notice ∧ (doSetCompensation material sx sy s).1.config = s.config ∧
      (doSetCompensation material sx sy s).1.reports = s.reports ∧
      (doSetCompensation material sx sy s).1.pending = s.pending := by
  unfold doSetCompensation; split <;> simp

/-- What `doGetCompensation` leaves. -/
@[simp] theorem doGetCompensation_frame (material : Byte) (s : State) :
    (doGetCompensation material s).1.line = s.line ∧ (doGetCompensation material s).1.mgmt = s.mgmt ∧
      (doGetCompensation material s).1.store = s.store ∧ (doGetCompensation material s).1.seq = s.seq ∧
      (doGetCompensation material s).1.lanes = s.lanes ∧ (doGetCompensation material s).1.needleSets = s.needleSets ∧
      (doGetCompensation material s).1.interlock = s.interlock ∧ (doGetCompensation material s).1.asm = s.asm ∧
      (doGetCompensation material s).1.link = s.link ∧ (doGetCompensation material s).1.needles = s.needles ∧
      (doGetCompensation material s).1.tally = s.tally ∧ (doGetCompensation material s).1.flags = s.flags ∧
      (doGetCompensation material s).1.notice = s.notice ∧ (doGetCompensation material s).1.config = s.config ∧
      (doGetCompensation material s).1.comp = s.comp ∧ (doGetCompensation material s).1.reports = s.reports ∧
      (doGetCompensation material s).1.pending = s.pending := by
  unfold doGetCompensation; split <;> simp

end Sys2Proof.Machine
end

