-- ==== Sys2Proof/Laws/HeadFrames.lean ====
section
/-!
SUPPORT. What each operation of Machine/Head.lean leaves as it was: one lemma for each, as rewrite rules.
-/

namespace Sys2Proof.Machine

/-- What `endQuery` leaves. -/
@[simp] theorem endQuery_frame (a : Answer) (s : State) :
    (endQuery a s).store = s.store ∧ (endQuery a s).seq = s.seq ∧ (endQuery a s).lanes = s.lanes ∧
      (endQuery a s).needleSets = s.needleSets ∧ (endQuery a s).interlock = s.interlock ∧ (endQuery a s).asm = s.asm ∧
      (endQuery a s).needles = s.needles ∧ (endQuery a s).tally = s.tally ∧ (endQuery a s).flags = s.flags ∧
      (endQuery a s).notice = s.notice ∧ (endQuery a s).config = s.config ∧ (endQuery a s).comp = s.comp ∧
      (endQuery a s).reports = s.reports ∧ (endQuery a s).pending = s.pending ∧ (endQuery a s).line.mode = s.line.mode ∧
      (endQuery a s).line.receiver = s.line.receiver ∧ (endQuery a s).line.lastSeq = s.line.lastSeq ∧
      (endQuery a s).line.latest = s.line.latest ∧ (endQuery a s).link.state = s.link.state ∧
      (endQuery a s).link.slotLane = s.link.slotLane ∧ (endQuery a s).link.slotFeed = s.link.slotFeed ∧
      (endQuery a s).link.presence = s.link.presence ∧ (endQuery a s).link.limits = s.link.limits ∧
      (endQuery a s).link.wakeCount = s.link.wakeCount ∧ (endQuery a s).link.miss = s.link.miss ∧
      (endQuery a s).link.marker = s.link.marker ∧ (endQuery a s).link.out = s.link.out ∧
      (endQuery a s).link.receiver = s.link.receiver := by
  simp [endQuery]

/-- What `offerAnswer` leaves. -/
@[simp] theorem offerAnswer_frame (r : ModuleReturn) (s : State) :
    (offerAnswer r s).store = s.store ∧ (offerAnswer r s).seq = s.seq ∧ (offerAnswer r s).lanes = s.lanes ∧
      (offerAnswer r s).needleSets = s.needleSets ∧ (offerAnswer r s).interlock = s.interlock ∧
      (offerAnswer r s).asm = s.asm ∧ (offerAnswer r s).needles = s.needles ∧ (offerAnswer r s).tally = s.tally ∧
      (offerAnswer r s).flags = s.flags ∧ (offerAnswer r s).notice = s.notice ∧ (offerAnswer r s).config = s.config ∧
      (offerAnswer r s).comp = s.comp ∧ (offerAnswer r s).reports = s.reports ∧ (offerAnswer r s).pending = s.pending ∧
      (offerAnswer r s).line.mode = s.line.mode ∧ (offerAnswer r s).line.receiver = s.line.receiver ∧
      (offerAnswer r s).line.lastSeq = s.line.lastSeq ∧ (offerAnswer r s).line.latest = s.line.latest ∧
      (offerAnswer r s).link.state = s.link.state ∧ (offerAnswer r s).link.slotLane = s.link.slotLane ∧
      (offerAnswer r s).link.slotFeed = s.link.slotFeed ∧ (offerAnswer r s).link.presence = s.link.presence ∧
      (offerAnswer r s).link.limits = s.link.limits ∧ (offerAnswer r s).link.wakeCount = s.link.wakeCount ∧
      (offerAnswer r s).link.miss = s.link.miss ∧ (offerAnswer r s).link.marker = s.link.marker ∧
      (offerAnswer r s).link.out = s.link.out ∧ (offerAnswer r s).link.receiver = s.link.receiver := by
  unfold offerAnswer; (repeat' split) <;> simp

/-- What `handThreads` leaves. -/
@[simp] theorem handThreads_frame (r : ModuleReturn) (s : State) :
    (handThreads r s).line = s.line ∧ (handThreads r s).mgmt = s.mgmt ∧ (handThreads r s).store = s.store ∧
      (handThreads r s).lanes = s.lanes ∧ (handThreads r s).needleSets = s.needleSets ∧
      (handThreads r s).interlock = s.interlock ∧ (handThreads r s).asm = s.asm ∧ (handThreads r s).link = s.link ∧
      (handThreads r s).tally = s.tally ∧ (handThreads r s).notice = s.notice ∧ (handThreads r s).config = s.config ∧
      (handThreads r s).comp = s.comp ∧ (handThreads r s).reports = s.reports ∧ (handThreads r s).pending = s.pending := by
  unfold handThreads; (repeat' split) <;> simp

/-- What `takeReturn` leaves. -/
@[simp] theorem takeReturn_frame (r : ModuleReturn) (s : State) :
    (takeReturn r s).store = s.store ∧ (takeReturn r s).lanes = s.lanes ∧ (takeReturn r s).needleSets = s.needleSets ∧
      (takeReturn r s).interlock = s.interlock ∧ (takeReturn r s).asm = s.asm ∧ (takeReturn r s).tally = s.tally ∧
      (takeReturn r s).notice = s.notice ∧ (takeReturn r s).config = s.config ∧ (takeReturn r s).comp = s.comp ∧
      (takeReturn r s).reports = s.reports ∧ (takeReturn r s).pending = s.pending ∧
      (takeReturn r s).line.mode = s.line.mode ∧ (takeReturn r s).line.receiver = s.line.receiver ∧
      (takeReturn r s).line.lastSeq = s.line.lastSeq ∧ (takeReturn r s).line.latest = s.line.latest := by
  unfold takeReturn; split <;> simp

/-- What `loseModule` leaves. -/
@[simp] theorem loseModule_frame (s : State) :
    (loseModule s).store = s.store ∧ (loseModule s).lanes = s.lanes ∧ (loseModule s).needleSets = s.needleSets ∧
      (loseModule s).interlock = s.interlock ∧ (loseModule s).asm = s.asm ∧ (loseModule s).needles = s.needles ∧
      (loseModule s).tally = s.tally ∧ (loseModule s).notice = s.notice ∧ (loseModule s).config = s.config ∧
      (loseModule s).comp = s.comp ∧ (loseModule s).reports = s.reports ∧ (loseModule s).pending = s.pending ∧
      (loseModule s).line.mode = s.line.mode ∧ (loseModule s).line.receiver = s.line.receiver ∧
      (loseModule s).line.lastSeq = s.line.lastSeq ∧ (loseModule s).line.latest = s.line.latest ∧
      (loseModule s).seq.ring = s.seq.ring ∧ (loseModule s).seq.ci = s.seq.ci ∧ (loseModule s).seq.lvi = s.seq.lvi ∧
      (loseModule s).seq.ciStatus = s.seq.ciStatus ∧ (loseModule s).seq.prefetch = s.seq.prefetch ∧
      (loseModule s).seq.phase = s.seq.phase ∧ (loseModule s).seq.current = s.seq.current ∧
      (loseModule s).seq.serial = s.seq.serial ∧ (loseModule s).seq.pausePending = s.seq.pausePending ∧
      (loseModule s).seq.dwell = s.seq.dwell ∧ (loseModule s).seq.gapRem = s.seq.gapRem ∧
      (loseModule s).seq.tie = s.seq.tie ∧ (loseModule s).seq.repeats = s.seq.repeats ∧
      (loseModule s).link.slotLane = s.link.slotLane ∧ (loseModule s).link.slotFeed = s.link.slotFeed ∧
      (loseModule s).link.presence = s.link.presence ∧ (loseModule s).link.limits = s.link.limits ∧
      (loseModule s).link.wakeCount = s.link.wakeCount ∧ (loseModule s).link.miss = s.link.miss ∧
      (loseModule s).link.marker = s.link.marker ∧ (loseModule s).link.out = s.link.out ∧
      (loseModule s).link.receiver = s.link.receiver := by
  unfold loseModule; split <;> simp

/-- What `failWake` leaves. -/
@[simp] theorem failWake_frame (s : State) :
    (failWake s).line = s.line ∧ (failWake s).mgmt = s.mgmt ∧ (failWake s).store = s.store ∧ (failWake s).seq = s.seq ∧
      (failWake s).lanes = s.lanes ∧ (failWake s).needleSets = s.needleSets ∧ (failWake s).interlock = s.interlock ∧
      (failWake s).asm = s.asm ∧ (failWake s).needles = s.needles ∧ (failWake s).tally = s.tally ∧
      (failWake s).notice = s.notice ∧ (failWake s).config = s.config ∧ (failWake s).comp = s.comp ∧
      (failWake s).reports = s.reports ∧ (failWake s).pending = s.pending ∧ (failWake s).link.slotLane = s.link.slotLane ∧
      (failWake s).link.slotFeed = s.link.slotFeed ∧ (failWake s).link.presence = s.link.presence ∧
      (failWake s).link.limits = s.link.limits ∧ (failWake s).link.wakeCount = s.link.wakeCount ∧
      (failWake s).link.miss = s.link.miss ∧ (failWake s).link.marker = s.link.marker ∧
      (failWake s).link.query = s.link.query ∧ (failWake s).link.out = s.link.out ∧
      (failWake s).link.receiver = s.link.receiver := by
  simp [failWake]

/-- What `evalLink` leaves. -/
@[simp] theorem evalLink_frame (s : State) :
    (evalLink s).store = s.store ∧ (evalLink s).lanes = s.lanes ∧ (evalLink s).needleSets = s.needleSets ∧
      (evalLink s).interlock = s.interlock ∧ (evalLink s).asm = s.asm ∧ (evalLink s).needles = s.needles ∧
      (evalLink s).tally = s.tally ∧ (evalLink s).notice = s.notice ∧ (evalLink s).config = s.config ∧
      (evalLink s).comp = s.comp ∧ (evalLink s).reports = s.reports ∧ (evalLink s).pending = s.pending ∧
      (evalLink s).line.mode = s.line.mode ∧ (evalLink s).line.receiver = s.line.receiver ∧
      (evalLink s).line.lastSeq = s.line.lastSeq ∧ (evalLink s).line.latest = s.line.latest ∧
      (evalLink s).seq.ring = s.seq.ring ∧ (evalLink s).seq.ci = s.seq.ci ∧ (evalLink s).seq.lvi = s.seq.lvi ∧
      (evalLink s).seq.ciStatus = s.seq.ciStatus ∧ (evalLink s).seq.prefetch = s.seq.prefetch ∧
      (evalLink s).seq.phase = s.seq.phase ∧ (evalLink s).seq.current = s.seq.current ∧
      (evalLink s).seq.serial = s.seq.serial ∧ (evalLink s).seq.pausePending = s.seq.pausePending ∧
      (evalLink s).seq.dwell = s.seq.dwell ∧ (evalLink s).seq.gapRem = s.seq.gapRem ∧ (evalLink s).seq.tie = s.seq.tie ∧
      (evalLink s).seq.repeats = s.seq.repeats := by
  simp only [evalLink]; (repeat' split) <;> simp

/-- What `doLinkStart` leaves. -/
@[simp] theorem doLinkStart_frame (s : State) :
    (doLinkStart s).1.line = s.line ∧ (doLinkStart s).1.mgmt = s.mgmt ∧ (doLinkStart s).1.store = s.store ∧
      (doLinkStart s).1.seq = s.seq ∧ (doLinkStart s).1.lanes = s.lanes ∧ (doLinkStart s).1.needleSets = s.needleSets ∧
      (doLinkStart s).1.interlock = s.interlock ∧ (doLinkStart s).1.asm = s.asm ∧ (doLinkStart s).1.needles = s.needles ∧
      (doLinkStart s).1.tally = s.tally ∧ (doLinkStart s).1.flags = s.flags ∧ (doLinkStart s).1.notice = s.notice ∧
      (doLinkStart s).1.config = s.config ∧ (doLinkStart s).1.comp = s.comp ∧ (doLinkStart s).1.reports = s.reports ∧
      (doLinkStart s).1.pending = s.pending ∧ (doLinkStart s).1.link.slotLane = s.link.slotLane ∧
      (doLinkStart s).1.link.slotFeed = s.link.slotFeed ∧ (doLinkStart s).1.link.presence = s.link.presence ∧
      (doLinkStart s).1.link.limits = s.link.limits ∧ (doLinkStart s).1.link.marker = s.link.marker ∧
      (doLinkStart s).1.link.query = s.link.query ∧ (doLinkStart s).1.link.out = s.link.out ∧
      (doLinkStart s).1.link.receiver = s.link.receiver := by
  unfold doLinkStart; (repeat' split) <;> simp

/-- What `doLinkStop` leaves. -/
@[simp] theorem doLinkStop_frame (s : State) :
    (doLinkStop s).1.line = s.line ∧ (doLinkStop s).1.mgmt = s.mgmt ∧ (doLinkStop s).1.store = s.store ∧
      (doLinkStop s).1.seq = s.seq ∧ (doLinkStop s).1.lanes = s.lanes ∧ (doLinkStop s).1.needleSets = s.needleSets ∧
      (doLinkStop s).1.interlock = s.interlock ∧ (doLinkStop s).1.asm = s.asm ∧ (doLinkStop s).1.needles = s.needles ∧
      (doLinkStop s).1.tally = s.tally ∧ (doLinkStop s).1.flags = s.flags ∧ (doLinkStop s).1.notice = s.notice ∧
      (doLinkStop s).1.config = s.config ∧ (doLinkStop s).1.comp = s.comp ∧ (doLinkStop s).1.reports = s.reports ∧
      (doLinkStop s).1.pending = s.pending := by
  unfold doLinkStop; (repeat' split) <;> simp

/-- What `doHeadQuery` leaves. -/
@[simp] theorem doHeadQuery_frame (slot item : Byte) (s : State) :
    (doHeadQuery slot item s).1.line = s.line ∧ (doHeadQuery slot item s).1.store = s.store ∧
      (doHeadQuery slot item s).1.seq = s.seq ∧ (doHeadQuery slot item s).1.lanes = s.lanes ∧
      (doHeadQuery slot item s).1.needleSets = s.needleSets ∧ (doHeadQuery slot item s).1.interlock = s.interlock ∧
      (doHeadQuery slot item s).1.asm = s.asm ∧ (doHeadQuery slot item s).1.needles = s.needles ∧
      (doHeadQuery slot item s).1.tally = s.tally ∧ (doHeadQuery slot item s).1.flags = s.flags ∧
      (doHeadQuery slot item s).1.notice = s.notice ∧ (doHeadQuery slot item s).1.config = s.config ∧
      (doHeadQuery slot item s).1.comp = s.comp ∧ (doHeadQuery slot item s).1.reports = s.reports ∧
      (doHeadQuery slot item s).1.pending = s.pending ∧ (doHeadQuery slot item s).1.mgmt.queue = s.mgmt.queue ∧
      (doHeadQuery slot item s).1.link.state = s.link.state ∧ (doHeadQuery slot item s).1.link.slotLane = s.link.slotLane ∧
      (doHeadQuery slot item s).1.link.slotFeed = s.link.slotFeed ∧
      (doHeadQuery slot item s).1.link.presence = s.link.presence ∧ (doHeadQuery slot item s).1.link.limits = s.link.limits ∧
      (doHeadQuery slot item s).1.link.wakeCount = s.link.wakeCount ∧ (doHeadQuery slot item s).1.link.miss = s.link.miss ∧
      (doHeadQuery slot item s).1.link.out = s.link.out ∧ (doHeadQuery slot item s).1.link.receiver = s.link.receiver := by
  unfold doHeadQuery; (repeat' split) <;> simp

end Sys2Proof.Machine
end

