-- ==== Sys2Proof/Laws/ManagementFrames.lean ====
section
/-!
SUPPORT. What each operation of Machine/Management.lean leaves as it was: one lemma for each, as rewrite rules.
-/

namespace Sys2Proof.Machine

/-- What `changeMode` leaves, and the mode it sets. -/
@[simp] theorem changeMode_frame (m : Mode) (s : State) :
    (changeMode m s).mgmt = s.mgmt ∧ (changeMode m s).store = s.store ∧ (changeMode m s).lanes = s.lanes ∧
      (changeMode m s).needleSets = s.needleSets ∧ (changeMode m s).interlock = s.interlock ∧ (changeMode m s).asm = s.asm ∧
      (changeMode m s).needles = s.needles ∧ (changeMode m s).notice = s.notice ∧ (changeMode m s).config = s.config ∧
      (changeMode m s).comp = s.comp ∧ (changeMode m s).pending = s.pending ∧ (changeMode m s).seq.state = s.seq.state ∧
      (changeMode m s).seq.ring = s.seq.ring ∧ (changeMode m s).seq.current = s.seq.current ∧
      (changeMode m s).seq.prefetch = s.seq.prefetch ∧ (changeMode m s).line.receiver = s.line.receiver ∧
      (changeMode m s).line.lastSeq = s.line.lastSeq ∧ (changeMode m s).line.latest = s.line.latest ∧
      (changeMode m s).line.sending = s.line.sending ∧ (changeMode m s).line.waiting = s.line.waiting ∧
      (changeMode m s).line.mode = m ∧ (changeMode m s).reports.feeds = [] := by
  simp [changeMode]

/-- What `doLineReset` leaves. -/
@[simp] theorem doLineReset_frame (s : State) :
    (doLineReset s).1.line.mode = s.line.mode ∧ (doLineReset s).1.line.receiver = s.line.receiver ∧
      (doLineReset s).1.line.latest = s.line.latest ∧ (doLineReset s).1.line.sending = s.line.sending ∧
      (doLineReset s).1.line.waiting = s.line.waiting ∧ (doLineReset s).1.mgmt.queue = s.mgmt.queue ∧
      (doLineReset s).1.mgmt.active = s.mgmt.active ∧ (doLineReset s).1.store.mem = s.store.mem ∧
      (doLineReset s).1.store.free = s.store.free ∧ (doLineReset s).1.asm.bands = s.asm.bands ∧
      (doLineReset s).1.asm.selection = s.asm.selection ∧ (doLineReset s).1.asm.pos = s.asm.pos ∧
      (doLineReset s).1.asm.carryPending = s.asm.carryPending ∧ (doLineReset s).1.link.state = s.link.state ∧
      (doLineReset s).1.link.slotLane = s.link.slotLane ∧ (doLineReset s).1.link.slotFeed = s.link.slotFeed ∧
      (doLineReset s).1.link.presence = s.link.presence ∧ (doLineReset s).1.link.limits = s.link.limits ∧
      (doLineReset s).1.link.wakeCount = s.link.wakeCount ∧ (doLineReset s).1.link.marker = s.link.marker ∧
      (doLineReset s).1.link.query = s.link.query ∧ (doLineReset s).1.link.out = s.link.out ∧
      (doLineReset s).1.link.receiver = s.link.receiver ∧ (doLineReset s).1.needles.log = s.needles.log ∧
      (doLineReset s).1.needles.entries = s.needles.entries ∧ (doLineReset s).1.tally.run = s.tally.run ∧
      (doLineReset s).1.tally.selection = s.tally.selection ∧ (doLineReset s).1.tally.action = s.tally.action ∧
      (doLineReset s).1.tally.metreValue = s.tally.metreValue ∧ (doLineReset s).1.tally.panelValue = s.tally.panelValue ∧
      (doLineReset s).1.tally.panels = s.tally.panels ∧ (doLineReset s).1.reports.feeds = [] := by
  simp [doLineReset]

/-- What `finish` leaves. -/
@[simp] theorem finish_frame (r : State × Answer) :
    (finish r).store = r.1.store ∧ (finish r).seq = r.1.seq ∧ (finish r).lanes = r.1.lanes ∧
      (finish r).needleSets = r.1.needleSets ∧ (finish r).interlock = r.1.interlock ∧ (finish r).asm = r.1.asm ∧
      (finish r).link = r.1.link ∧ (finish r).needles = r.1.needles ∧ (finish r).tally = r.1.tally ∧
      (finish r).flags = r.1.flags ∧ (finish r).notice = r.1.notice ∧ (finish r).config = r.1.config ∧
      (finish r).comp = r.1.comp ∧ (finish r).reports = r.1.reports ∧ (finish r).pending = r.1.pending ∧
      (finish r).line.mode = r.1.line.mode ∧ (finish r).line.receiver = r.1.line.receiver ∧
      (finish r).line.lastSeq = r.1.line.lastSeq ∧ (finish r).line.latest = r.1.line.latest := by
  simp [finish]

/-- What `finishOrHold` leaves. -/
@[simp] theorem finishOrHold_frame (r : State × Option Answer) :
    (finishOrHold r).store = r.1.store ∧ (finishOrHold r).seq = r.1.seq ∧ (finishOrHold r).lanes = r.1.lanes ∧
      (finishOrHold r).needleSets = r.1.needleSets ∧ (finishOrHold r).interlock = r.1.interlock ∧
      (finishOrHold r).asm = r.1.asm ∧ (finishOrHold r).link = r.1.link ∧ (finishOrHold r).needles = r.1.needles ∧
      (finishOrHold r).tally = r.1.tally ∧ (finishOrHold r).flags = r.1.flags ∧ (finishOrHold r).notice = r.1.notice ∧
      (finishOrHold r).config = r.1.config ∧ (finishOrHold r).comp = r.1.comp ∧ (finishOrHold r).reports = r.1.reports ∧
      (finishOrHold r).pending = r.1.pending ∧ (finishOrHold r).line.mode = r.1.line.mode ∧
      (finishOrHold r).line.receiver = r.1.line.receiver ∧ (finishOrHold r).line.lastSeq = r.1.line.lastSeq ∧
      (finishOrHold r).line.latest = r.1.line.latest := by
  refine ⟨?_, ?_, ?_, ?_, ?_, ?_, ?_, ?_, ?_, ?_, ?_, ?_, ?_, ?_, ?_, ?_, ?_, ?_, ?_⟩ <;>
  (simp only [finishOrHold]; (repeat' split) <;> simp)

theorem runQueue_keeps {β : Type} (g : State → β) (h : ∀ r s, g (execHead r s) = g s) (n : Nat) (s : State) :
    g (runQueue n s) = g s := by
  induction n generalizing s with
  | zero => rfl
  | succ n ih =>
    unfold runQueue
    split
    · rw [ih, h]
    · rfl

end Sys2Proof.Machine
end

