-- ==== Sys2Proof/Laws/SendPointFrames.lean ====
section
/-!
SUPPORT. What each operation of Machine/SendPoint.lean leaves as it was: one lemma for each, as rewrite rules.
-/

namespace Sys2Proof.Machine

/-- What `driveFrame` leaves. -/
@[simp] theorem driveFrame_frame (f : HeadFrame) (s : State) :
    (driveFrame f s).link.state = s.link.state ∧ (driveFrame f s).link.slotLane = s.link.slotLane ∧
      (driveFrame f s).link.slotFeed = s.link.slotFeed ∧ (driveFrame f s).link.presence = s.link.presence ∧
      (driveFrame f s).link.limits = s.link.limits ∧ (driveFrame f s).link.miss = s.link.miss ∧
      (driveFrame f s).link.marker = s.link.marker ∧ (driveFrame f s).link.query = s.link.query := by
  unfold driveFrame; split <;> simp

/-- What `countQueryFrame` leaves. -/
@[simp] theorem countQueryFrame_frame (s : State) :
    (countQueryFrame s).store = s.store ∧ (countQueryFrame s).seq = s.seq ∧ (countQueryFrame s).lanes = s.lanes ∧
      (countQueryFrame s).needleSets = s.needleSets ∧ (countQueryFrame s).interlock = s.interlock ∧
      (countQueryFrame s).asm = s.asm ∧ (countQueryFrame s).needles = s.needles ∧ (countQueryFrame s).tally = s.tally ∧
      (countQueryFrame s).notice = s.notice ∧ (countQueryFrame s).config = s.config ∧ (countQueryFrame s).comp = s.comp ∧
      (countQueryFrame s).reports = s.reports ∧ (countQueryFrame s).pending = s.pending ∧
      (countQueryFrame s).line.mode = s.line.mode ∧ (countQueryFrame s).line.receiver = s.line.receiver ∧
      (countQueryFrame s).line.lastSeq = s.line.lastSeq ∧ (countQueryFrame s).line.latest = s.line.latest ∧
      (countQueryFrame s).link.state = s.link.state ∧ (countQueryFrame s).link.slotLane = s.link.slotLane ∧
      (countQueryFrame s).link.slotFeed = s.link.slotFeed ∧ (countQueryFrame s).link.presence = s.link.presence ∧
      (countQueryFrame s).link.limits = s.link.limits ∧ (countQueryFrame s).link.wakeCount = s.link.wakeCount ∧
      (countQueryFrame s).link.miss = s.link.miss ∧ (countQueryFrame s).link.marker = s.link.marker ∧
      (countQueryFrame s).link.out = s.link.out ∧ (countQueryFrame s).link.receiver = s.link.receiver := by
  unfold countQueryFrame; split <;> simp

/-- What `syntheticReturns` leaves. -/
@[simp] theorem syntheticReturns_frame (seq : Half) (query : Option QueryPart) (s : State) :
    (syntheticReturns seq query s).store = s.store ∧ (syntheticReturns seq query s).lanes = s.lanes ∧
      (syntheticReturns seq query s).needleSets = s.needleSets ∧ (syntheticReturns seq query s).interlock = s.interlock ∧
      (syntheticReturns seq query s).asm = s.asm ∧ (syntheticReturns seq query s).tally = s.tally ∧
      (syntheticReturns seq query s).notice = s.notice ∧ (syntheticReturns seq query s).config = s.config ∧
      (syntheticReturns seq query s).comp = s.comp ∧ (syntheticReturns seq query s).reports = s.reports ∧
      (syntheticReturns seq query s).pending = s.pending := by
  refine ⟨?_, ?_, ?_, ?_, ?_, ?_, ?_, ?_, ?_, ?_, ?_⟩ <;>
  (unfold syntheticReturns; split; exact foldl_keeps _ _ (fun s r => by simp) _ _; rfl)

/-- What `sendStatus` leaves. -/
@[simp] theorem sendStatus_frame (seq : Half) (kind : Option FrameKind) (s : State) :
    (sendStatus seq kind s).mgmt = s.mgmt ∧ (sendStatus seq kind s).store = s.store ∧ (sendStatus seq kind s).seq = s.seq ∧
      (sendStatus seq kind s).lanes = s.lanes ∧ (sendStatus seq kind s).needleSets = s.needleSets ∧
      (sendStatus seq kind s).interlock = s.interlock ∧ (sendStatus seq kind s).asm = s.asm ∧
      (sendStatus seq kind s).link = s.link ∧ (sendStatus seq kind s).needles = s.needles ∧
      (sendStatus seq kind s).tally = s.tally ∧ (sendStatus seq kind s).flags = s.flags ∧
      (sendStatus seq kind s).notice = s.notice ∧ (sendStatus seq kind s).config = s.config ∧
      (sendStatus seq kind s).comp = s.comp ∧ (sendStatus seq kind s).reports = s.reports ∧
      (sendStatus seq kind s).pending = s.pending ∧ (sendStatus seq kind s).line.mode = s.line.mode ∧
      (sendStatus seq kind s).line.receiver = s.line.receiver ∧ (sendStatus seq kind s).line.lastSeq = s.line.lastSeq ∧
      (sendStatus seq kind s).line.latest = s.line.latest := by
  unfold sendStatus; split <;> simp

end Sys2Proof.Machine
end

