-- ==== Sys2Proof/Laws/LineFrames.lean ====
section
/-!
SUPPORT. What each operation of Machine/Line.lean leaves as it was: one lemma for each, as rewrite rules.
-/

namespace Sys2Proof.Machine

/-- What `echoFrame` leaves. -/
@[simp] theorem echoFrame_frame (g : List Byte) (s : State) :
    (echoFrame g s).mgmt = s.mgmt ∧ (echoFrame g s).store = s.store ∧ (echoFrame g s).seq = s.seq ∧
      (echoFrame g s).lanes = s.lanes ∧ (echoFrame g s).needleSets = s.needleSets ∧ (echoFrame g s).interlock = s.interlock ∧
      (echoFrame g s).asm = s.asm ∧ (echoFrame g s).link = s.link ∧ (echoFrame g s).needles = s.needles ∧
      (echoFrame g s).tally = s.tally ∧ (echoFrame g s).flags = s.flags ∧ (echoFrame g s).notice = s.notice ∧
      (echoFrame g s).config = s.config ∧ (echoFrame g s).comp = s.comp ∧ (echoFrame g s).reports = s.reports ∧
      (echoFrame g s).pending = s.pending ∧ (echoFrame g s).line.mode = s.line.mode ∧
      (echoFrame g s).line.receiver = s.line.receiver ∧ (echoFrame g s).line.lastSeq = s.line.lastSeq ∧
      (echoFrame g s).line.latest = s.line.latest := by
  unfold echoFrame; split <;> simp

end Sys2Proof.Machine
end

