-- ==== Sys2Proof/Laws/Receive.lean ====
section
/-!
SUPPORT. Receiving: a hunting receiver takes a whole frame as one, frames pass their own CRC, and a request that reaches a part at rest
executes at once.
-/

namespace Sys2Proof.Machine

/-! ### Bytes and fields -/

/-- A two-byte field is read back from its bytes. -/
@[simp] theorem half_halfBytes (h : Half) : half (h.extractLsb' 8 8) (h.extractLsb' 0 8) = h := by
  apply BitVec.eq_of_getLsbD_eq
  intro i hi
  simp only [half, BitVec.getLsbD_append, BitVec.getLsbD_extractLsb']
  by_cases h8 : i < 8
  · simp [h8]
  · simp [h8, show i - 8 < 8 by omega, show 8 + (i - 8) = i by omega]

/-- A needle set is read back from its six bytes. -/
@[simp] theorem needleSet_setBytes (m : NeedleSet) :
    needleSet (m.extractLsb' 0 8) (m.extractLsb' 8 8) (m.extractLsb' 16 8) (m.extractLsb' 24 8) (m.extractLsb' 32 8)
      (m.extractLsb' 40 8) = m := by
  apply BitVec.eq_of_getLsbD_eq
  intro i hi
  simp only [needleSet, BitVec.getLsbD_append, BitVec.getLsbD_extractLsb']
  by_cases h0 : i < 8
  · simp [h0]
  by_cases h1 : i < 16
  · simp [h0, show i - 8 < 8 by omega, show 8 + (i - 8) = i by omega]
  by_cases h2 : i < 24
  · simp [h0, show ¬ i - 8 < 8 by omega, show i - 8 - 8 < 8 by omega, show 16 + (i - 8 - 8) = i by omega]
  by_cases h3 : i < 32
  · simp [h0, show ¬ i - 8 < 8 by omega, show ¬ i - 8 - 8 < 8 by omega, show i - 8 - 8 - 8 < 8 by omega,
      show 24 + (i - 8 - 8 - 8) = i by omega]
  by_cases h4 : i < 40
  · simp [h0, show ¬ i - 8 < 8 by omega, show ¬ i - 8 - 8 < 8 by omega, show ¬ i - 8 - 8 - 8 < 8 by omega,
      show i - 8 - 8 - 8 - 8 < 8 by omega, show 32 + (i - 8 - 8 - 8 - 8) = i by omega]
  · simp [h0, show ¬ i - 8 < 8 by omega, show ¬ i - 8 - 8 < 8 by omega, show ¬ i - 8 - 8 - 8 < 8 by omega,
      show ¬ i - 8 - 8 - 8 - 8 < 8 by omega, show i - 8 - 8 - 8 - 8 - 8 < 8 by omega,
      show 40 + (i - 8 - 8 - 8 - 8 - 8) = i by omega]

/-! ### Whole frames -/

/-- The bytes after a delimiter make exactly one frame. -/
def exactFrame (g : List Byte) : Prop :=
  ∃ t len rest, g = t :: len :: rest ∧ g.length = 4 + len.toNat

/-- A proper beginning of a frame is not complete, and the frame is. -/
theorem frameComplete_append {g got rest : List Byte} (hg : exactFrame g) (h : got ++ rest = g) :
    frameComplete got = decide (rest = []) := by
  obtain ⟨t, len, r, hr, hl⟩ := hg
  subst h
  match got with
  | [] => cases rest <;> simp_all [frameComplete]
  | [a] =>
    simp only [List.cons_append, List.nil_append, List.cons.injEq] at hr
    simp [frameComplete, hr.2]
  | a :: b :: c =>
    simp only [List.cons_append, List.cons.injEq] at hr
    obtain ⟨-, hb, -⟩ := hr
    subst hb
    simp only [List.cons_append, List.length_cons, List.length_append] at hl
    cases rest with
    | nil => simp [frameComplete] at hl ⊢; omega
    | cons x xs => simp [frameComplete] at hl ⊢; omega

/-- A receiver in a frame takes the rest of it and hands the whole frame on. -/
theorem receive_rest (order : List Report) {g : List Byte} (hg : exactFrame g) (rest got : List Byte) (s : State)
    (h : got ++ rest = g) (hne : rest ≠ []) (hr : s.line.receiver = .inFrame got) :
    receive order rest s = takeFrame order g (setReceiver .hunting s) := by
  induction rest generalizing got s with
  | nil => exact absurd rfl hne
  | cons b bs ih =>
    have hc := frameComplete_append hg (got := got ++ [b]) (rest := bs) (by simpa using h)
    rw [receive, List.foldl_cons, ← receive]
    simp only [receiveByte, hr, Receiver.take, hc]
    by_cases hb : bs = []
    · subst hb; subst h; simp [receive]
    · simp only [hb, decide_false, Bool.false_eq_true, if_false]
      rw [ih (got ++ [b]) _ (by simpa using h) hb (by simp)]
      rfl

/-- A hunting receiver takes a delimiter and the frame after it as one frame (R161). -/
theorem receive_frame (order : List Report) {g : List Byte} (hg : exactFrame g) {s : State} (hr : s.line.receiver = .hunting) :
    receive order (startByte :: g) s = takeFrame order g s := by
  have hne : g ≠ [] := by obtain ⟨t, len, r, hr, -⟩ := hg; simp [hr]
  rw [receive, List.foldl_cons, ← receive]
  simp only [receiveByte, hr, Receiver.take, if_true]
  rw [receive_rest order hg g [] _ rfl hne (by simp)]
  congr 1
  simp only [setReceiver]
  cases s with
  | mk line => cases line; simp_all

/-- A hunting receiver discards bytes that are no delimiter (R161). -/
theorem receive_noise (order : List Report) {bytes : List Byte} (hb : startByte ∉ bytes) {s : State}
    (hr : s.line.receiver = .hunting) : receive order bytes s = s := by
  induction bytes with
  | nil => rfl
  | cons b bs ih =>
    simp only [List.mem_cons, not_or] at hb
    rw [receive, List.foldl_cons, ← receive]
    have : receiveByte order s b = s := by
      simp only [receiveByte, hr, Receiver.take, if_neg (Ne.symm hb.1), setReceiver]
      cases s with
      | mk line => cases line; simp_all
    rw [this, ih hb.2]

/-! ### Frames as they are made -/

/-- The bytes of a frame after its delimiter. -/
def frameBody (typ : Byte) (payload : List Byte) : List Byte :=
  covered typ payload ++ halfBytes (crc (covered typ payload))

/-- A frame is its delimiter and its body. -/
theorem frameBytes_eq (typ : Byte) (payload : List Byte) : frameBytes typ payload = startByte :: frameBody typ payload := rfl

/-- A frame body is exactly one frame. -/
theorem exactFrame_frameBody (typ : Byte) {payload : List Byte} (h : payload.length ≤ 255) : exactFrame (frameBody typ payload) := by
  refine ⟨typ, BitVec.ofNat 8 payload.length, payload ++ halfBytes (crc (covered typ payload)), rfl, ?_⟩
  simp [frameBody, covered, halfBytes]
  omega

/-- A frame passes its own CRC check (R161, R162). -/
theorem crcHolds_frameBody (typ : Byte) (payload : List Byte) : crcHolds (frameBody typ payload) = true := by
  have h : (frameBody typ payload).length - 2 = (covered typ payload).length := by simp [frameBody, halfBytes]
  rw [crcHolds, h]
  simp [frameBody]

/-- The payload of a frame is what it was made of. -/
theorem payloadOf_frameBody (typ : Byte) (payload : List Byte) : payloadOf (frameBody typ payload) = payload := by
  have h : (frameBody typ payload).length - 2 = (covered typ payload).length := by simp [frameBody, halfBytes]
  rw [payloadOf, h]
  simp [frameBody, covered]

/-- The type of a frame is what it was made of. -/
theorem head_frameBody (typ : Byte) (payload : List Byte) : (frameBody typ payload).head? = some typ := rfl

/-- A MGMT frame reads back as it was made (R180). -/
theorem readDownward_mgmt (tag code : Byte) (args : List Byte) :
    readDownward (frameBody typeMgmt (mgmtPayload tag code args)) = .mgmt tag code args := by
  simp only [readDownward, head_frameBody, payloadOf_frameBody]
  rw [if_neg (by decide), if_pos trivial]
  rfl

/-- A CYCLE frame reads back as it was made (Table 10-3). -/
theorem readDownward_cycle (seq : Half) (run : Byte) (speed : Half) :
    readDownward (frameBody typeCycle (cyclePayload seq run speed)) = .cycle seq run speed := by
  simp only [readDownward, head_frameBody, payloadOf_frameBody]
  rw [if_pos trivial]
  simp [cyclePayload, halfBytes, readCycle]

/-- A MGMT frame that finds the receiver hunting and room goes to the Management Unit (R161, R165). -/
theorem receive_mgmt (order : List Report) (tag code : Byte) {args : List Byte} (ha : args.length ≤ 253) {s : State}
    (hr : s.line.receiver = .hunting) (hw : s.line.waiting.length < 10) (hm : s.line.mode ≠ .echo) :
    receive order (frameBytes typeMgmt (mgmtPayload tag code args)) s = takeRequest tag code args s := by
  rw [frameBytes_eq, receive_frame order (exactFrame_frameBody _ (by simp [mgmtPayload]; omega)) hr]
  simp [takeFrame, crcHolds_frameBody, State.hasRoom, Config.returnRoom, hw, readDownward_mgmt, echoFrame, hm, takeMgmt]

/-- A CYCLE frame that finds the receiver hunting and room has its sequence judged (R161, R163). -/
theorem receive_cycle (order : List Report) (seq : Half) (run : Byte) (speed : Half) {s : State} (h : s.receptive) :
    submitCycle seq run speed order s = takeCycle seq run speed order s := by
  obtain ⟨hr, hw, hm⟩ := h
  rw [submitCycle, frameBytes_eq, receive_frame order (exactFrame_frameBody _ (by simp [cyclePayload, halfBytes])) hr]
  simp [takeFrame, crcHolds_frameBody, State.hasRoom, Config.returnRoom, hw, readDownward_cycle, echoFrame, hm]

/-! ### Requests at a part at rest -/

/-- A part at rest has nothing in its management queue. -/
theorem with_mgmt_idle {s : State} (h : s.mgmt = ⟨[], none⟩) : { s with mgmt := ⟨[], none⟩ } = s := by
  cases s; simp_all

/-- A request that reaches a part at rest executes at once, at the head of an empty queue (R165, R166). -/
theorem submit_attentive {s : State} (h : s.attentive) (tag : Byte) {r : Request} (hp : parseRequest r.code r.args = .request r)
    (hl : r.args.length ≤ 253) : submit tag r s = execHead r { s with mgmt := ⟨[⟨tag, r⟩], none⟩ } := by
  obtain ⟨⟨hr, hw, hm⟩, hq⟩ := h
  rw [submit, receive_mgmt [] tag r.code hl hr hw hm, takeRequest, hp]
  simp [hq, Config.queueDepth, enqueue, drainQueue, runQueue]

/-- The request alone in the queue ends with its reply, and the queue is empty (R166, R167). -/
theorem finishHead_alone (a : Answer) {s : State} {tag : Byte} {r : Request} (h : s.mgmt.queue = [⟨tag, r⟩]) :
    finishHead a s = answered tag r a.result a.data { s with mgmt := ⟨[], none⟩ } := by
  simp only [finishHead, h, reply, answered, produce]

/-- A frame read from the head link is what it was made of (R183). -/
theorem readReturn_frameBody {p : List Byte} : readReturn (frameBody typeReturn p) = decodeReturn p := by
  simp [readReturn, crcHolds_frameBody, head_frameBody, payloadOf_frameBody]

/-- The head link receiver in a frame takes the rest of it and hands the whole frame on. -/
theorem receiveHead_rest {g : List Byte} (hg : exactFrame g) (rest got : List Byte) (s : State) (h : got ++ rest = g)
    (hne : rest ≠ []) (hr : s.link.receiver = .inFrame got) :
    rest.foldl receiveHeadByte s = takeHeadFrame g (setHeadReceiver .hunting s) := by
  induction rest generalizing got s with
  | nil => exact absurd rfl hne
  | cons b bs ih =>
    have hc := frameComplete_append hg (got := got ++ [b]) (rest := bs) (by simpa using h)
    rw [List.foldl_cons]
    simp only [receiveHeadByte, hr, Receiver.take, hc]
    by_cases hb : bs = []
    · subst hb; subst h; simp
    · simp only [hb, decide_false, Bool.false_eq_true, if_false]
      rw [ih (got ++ [b]) _ (by simpa using h) hb (by simp)]
      rfl

/-- A frame that finds the head link receiver hunting, in a mode other than LOOPBACK, is taken as one frame (R183). -/
theorem receiveHead_frame {g : List Byte} (hg : exactFrame g) {s : State} (hr : s.link.receiver = .hunting)
    (hm : s.line.mode ≠ .loopback) : receiveHead (startByte :: g) s = takeHeadFrame g s := by
  have hne : g ≠ [] := by obtain ⟨t, len, r, hr, -⟩ := hg; simp [hr]
  rw [receiveHead, if_neg hm, List.foldl_cons]
  simp only [receiveHeadByte, hr, Receiver.take, if_true]
  rw [receiveHead_rest hg g [] _ rfl hne (by simp)]
  congr 1
  simp only [setHeadReceiver]
  cases s with
  | mk line mgmt store seq lanes needleSets interlock asm link => cases link; simp_all

end Sys2Proof.Machine
end

