-- ==== Sys2Proof/Tests/Slice0.lean ====
section
/-!
SUPPORT. The model's own tests. First the refusals of WellFormed, then worked examples of the spec (each names its table), then for every
statement with hypotheses a witness: concrete states and operands that meet them, for each clause and at the ends of its range.
-/

namespace Sys2Proof.Tests

-- One theorem after another: each kernel evaluation would otherwise hold a thread of its own.
set_option Elab.async false

open Sys2Proof.Machine

/-! ### States of the tests -/

/-- Lane 0 on slot 0, the feed on slot 5, every module READY, the link ACTIVE. -/
def linked : State :=
  { State.reset with link := { HeadLink.reset with
      state := .active, slotLane := #v[some 0, none, none, none], slotFeed := some 5, seen := BitVec.allOnes 6 } }

/-- A panel of one lane, with every phase but GAP asked for. -/
def panel : Descriptor :=
  { patterns := #v[some 3, none, none, none], origins := Vector.replicate 4 0, feedLane := 0, material := 0, repeats := 1, gap := 10,
    tieIn := true, tieOut := true, trimOut := true, notice := true, pauseAfter := false }

/-- Its context at a scale of 1. -/
def context : Context := ⟨panel, Vector.replicate 4 4096, 4096⟩

/-- The feed lane of the panel in BODY, offering a record aimed at `target` with `rests` to pay. -/
def feedLane (target rests : Nat) : Lane :=
  { Lane.reset with
    phase := .work .body, role := .feed, pattern := some 3, cur := .record 0 0 Segment.blank, nxt := .fetch 1,
    ready := some ⟨.stitch, some target, 5, rests, some 40, true⟩, sx := 4096, sy := 4096, repeats := 2 }

/-- The line RUNNING in a phase of the panel, lane 0 offering a record. -/
def working (p : PanelPhase) (target rests : Nat) : State :=
  { linked with
    seq := { Sequencer.reset with
      state := .running, ciStatus := .current, phase := .panel p, current := some context, gapRem := 10, tie := 1, serial := 1 }
    lanes := (Vector.replicate 4 Lane.reset).set 0 (feedLane target rests) }

/-- A request that holds the head, and a pattern memory access of the Management Unit in flight. -/
def atHead (a : Active) : State :=
  { State.reset with
    mgmt := ⟨[⟨7, .getLink⟩], some a⟩
    store := { PatternStore.reset with inFlight := some ⟨mgmtRequester, 33, false⟩ } }

/-- An outstanding query of slot 0 at the head of the queue. -/
def asking (sent : Option Nat) : State :=
  { linked with mgmt := ⟨[⟨7, .headQuery 0 2⟩], some .query⟩, link := { linked.link with query := some ⟨0, 2, 1, sent⟩ } }

/-- Reset with the Sequencer in a state. -/
def inState (x : SeqState) : State := { State.reset with seq := { Sequencer.reset with state := x } }

/-- Reset with the link in a state. -/
def inLink (x : LinkState) (wake : Nat) : State :=
  { linked with link := { linked.link with state := x, wakeCount := wake, seen := 0 } }

/-- Reset with needle 7 of lane 0 in a state, and a reservation. -/
def withNeedle (x : NeedleState) (r : Option (LaneId × NeedleId)) : State :=
  { linked with needles := { NeedleTable.reset with
      entries := (Vector.replicate 4 (Vector.replicate 48 ⟨.absent, 0⟩)).set 0 ((Vector.replicate 48 ⟨.absent, 0⟩).set 7 ⟨x, 254⟩)
      reservation := r } }

/-- Reset with as many return frames waiting. -/
def crowded (n : Nat) : State :=
  { State.reset with line := { LinePort.reset with sending := some (.echo []), waiting := List.replicate n (.echo [1]) } }

/-- The next state of a command, or reset. -/
def after (c : Instr) (s : State) : State :=
  match exec c s with
  | .next t => t
  | _ => State.reset

/-! ### WellFormed refuses what cannot be put on the line -/

theorem test_wellFormed_refuses_long_mgmt : (Instr.mgmtFrame 1 135 (List.replicate 254 0)).wellFormed = false := by decide +kernel
theorem test_wellFormed_takes_longest_mgmt : (Instr.mgmtFrame 1 135 (List.replicate 253 0)).wellFormed = true := by decide +kernel
theorem test_wellFormed_refuses_no_record : (Instr.appendSegments 1 3 0 []).wellFormed = false := by decide +kernel
theorem test_wellFormed_refuses_nine_records :
    (Instr.appendSegments 1 3 0 (List.replicate 9 ⟨0, 1, 0, 0, 255⟩)).wellFormed = false := by decide +kernel
theorem test_wellFormed_takes_eight_records :
    (Instr.appendSegments 1 3 0 (List.replicate 8 ⟨0, 1, 0, 0, 255⟩)).wellFormed = true := by decide +kernel

/-! ### Worked examples of the spec -/

/-- The CRC of R162 over the characters 1 to 9 is 10673 (29B1 in hexadecimal). -/
theorem test_crc_check_value : crc [0x31, 0x32, 0x33, 0x34, 0x35, 0x36, 0x37, 0x38, 0x39] = 0x29B1 := by decide +kernel

/-- Table 1-4, last row: the pages pattern 9 gave back are taken first, then the lowest free page. -/
theorem test_open_takes_lowest_pages :
    let s := { State.reset with store := { PatternStore.reset with free := [3, 4] ++ (List.range 20).drop 9 } }
    (after (.openPattern 1 20 3) s).store.dir[20].pages = [3, 4, 9] := by decide +kernel

/-- Table 1-4: the pages of pattern 9 return in ascending order. -/
theorem test_free_returns_pages : returnPages [3, 4] [9, 10, 11] = [3, 4, 9, 10, 11] := by decide +kernel

/-- Table 4-4: a compensated target is rounded from the absolute coordinate, at Sx 4300. -/
theorem test_compensated_targets : (correction 10 4300, correction 11 4300, correction 20 4300) = (10, 12, 21) := by decide +kernel

/-- Section 4.8.3: halves go away from zero on both sides. -/
theorem test_correction_is_symmetric : (correction 4 4608, correction (-4) 4608) = (5, -5) := by decide +kernel

/-- Table 5-3: the row selected for each speed in a table that does not rise. -/
theorem test_bands_of_table_5_3 :
    let rows : Vector Band 8 := (#v[2000, 1000, 3000, 2500, 2500, 2500, 2500, 1200]).map (fun c => ⟨c, Vector.replicate 4 8⟩)
    [0, 800, 2000, 2001, 2800, 3001, 4000].map (selectBand rows) = [0, 0, 0, 2, 2, 7, 7] := by decide +kernel

/-- Table 8-2, frame 1: 300 steps carry into the millimetre and the metre count. -/
theorem test_cascade_frame_1 :
    let s := { State.reset with
      tally := { Tally.reset with steps := 12, mm := 996, metres := 41 }, reports := { Reports.none with feeds := [300] } }
    let t := (after .feedReport s).tally
    (t.steps, t.mm, t.metres) = (12, 11, 42) := by decide +kernel

/-- Section 1.4, READ_SEGMENTS(n, 6, 8) of ten segments makes four accesses and is CLAMPED. -/
theorem test_read_is_cut_to_the_count :
    let s := { State.reset with store := { PatternStore.reset with
      dir := PatternStore.reset.dir.set 3 ⟨.ready, [5], 10, 0, 0⟩ } }
    (after (.readSegments 1 3 6 8) s).mgmt.active = some (.read 3 6 4 [] true) := by decide +kernel

/-- Table 6-6: the first WAKE frame raises the wake count. -/
theorem test_first_wake_frame : (after (.cycleFrame 1 0 0 []) (inLink .waking 0)).link.wakeCount = 1 := by decide +kernel

/-- Table 6-6: the READY return of the last mapped slot makes the link ACTIVE. -/
theorem test_last_return_activates :
    let s := inLink .waking 3
    let t := { s with link := { s.link with awake := 0b100000 } }
    (after (.moduleReturn (ModuleReturn.bytes ⟨0, 3, .ready, 0, none⟩)) t).link.state = .active := by decide +kernel

/-- Table 11-2, send point 4: a travel of 60 at Dmax 40 makes the frame STEP, and the bar moves 40. -/
theorem test_step_split : (after (.cycleFrame 1 1 300 []) (working .body 60 0)).asm.pos[0] = 40 := by decide +kernel

/-- Section 7.3.1: a break reported late lies outside the history, and its record has no position part. -/
theorem test_late_break_has_no_position :
    (after (.moduleReturn (ModuleReturn.bytes ⟨0, 1204, .ready, 1#48 <<< 7, none⟩)) (withNeedle .engaged none)).needles.log
      = [⟨0, 7, 1204, none⟩] := by decide +kernel

/-! ### Witnesses: the hypotheses of each statement are met together -/

/-- A state with the Line Port and the Management Unit at rest is attentive. -/
theorem attentive_of_rest {s : State} (hl : s.line = LinePort.reset) (hm : s.mgmt = ⟨[], none⟩) : s.attentive := by
  refine ⟨?_, hm⟩
  unfold State.receptive
  rw [hl]
  decide

/-- Such a state with no report in flight but notices is ready for any CYCLE frame. -/
theorem cycleReady_of_rest {s : State} (seq : Half) (hl : s.line = LinePort.reset) (hm : s.mgmt = ⟨[], none⟩)
    (hr : s.reports = { Reports.none with notices := s.reports.notices }) : s.cycleReady seq :=
  ⟨attentive_of_rest hl hm, by rw [hl]; rfl, hr, .inl (by rw [hl]; rfl)⟩

theorem linked_linkUp : linked.linkUp := ⟨rfl, by decide, by decide, rfl⟩

theorem witness_step : { State.reset with pending := [.pause 1] }.pending = Instr.pause 1 :: [] ∧ State.reset.pending = [] :=
  ⟨rfl, rfl⟩

theorem witness_encoding : Request.run.wellFormed = true
    ∧ (Request.appendSegments 3 0 (List.replicate 8 ⟨0, 1, 0, 0, 255⟩)).wellFormed = true := by decide +kernel
theorem witness_head_frame :
    let f : HeadFrame := ⟨1, .wake, List.replicate 4 ⟨5, 65535, BitVec.allOnes 48, true⟩, none, 65535, some ⟨5, 255, 255⟩⟩
    f.parts.length ≤ 4 ∧ f.feed ≤ 65535 ∧ (∀ a ∈ f.parts, a.pos ≤ 65535) ∧ (∀ q, f.query = some q → q.item ≤ 255 ∧ q.marker ≤ 255)
      ∧ f.parts[3]? = some ⟨5, 65535, BitVec.allOnes 48, true⟩ :=
  ⟨by decide, by decide, by decide +kernel, fun q h => by obtain rfl := Option.some.inj h; decide, by decide +kernel⟩

theorem witness_mgmt_receptive : State.reset.receptive ∧ (List.replicate 253 (0 : Byte)).length ≤ 253 :=
  ⟨(attentive_of_rest rfl rfl).1, by decide +kernel⟩
theorem witness_mgmt_unknown : ∀ r : Request, r.code ≠ 0 := by
  intro r
  cases r <;> simp [Request.code]
theorem witness_mgmt_format : (∃ r : Request, r.code = 35) ∧ ∀ r : Request, r.wellFormed = true → r.code = 35 → r.args ≠ [1] := by
  refine ⟨⟨.run, rfl⟩, fun r _ h => ?_⟩
  cases r <;> simp_all [Request.code, Request.args]
theorem witness_mgmt_busy :
    let s := { State.reset with mgmt := ⟨List.replicate 4 ⟨7, .run⟩, some .query⟩ }
    s.receptive ∧ Request.run.wellFormed = true ∧ Request.run.code = 35 ∧ Request.run.args = [] ∧ 4 ≤ s.mgmt.queue.length :=
  ⟨⟨rfl, by decide, by decide⟩, rfl, rfl, rfl, by decide⟩
theorem witness_mgmt_tail :
    let s := { State.reset with mgmt := ⟨List.replicate 3 ⟨7, .run⟩, some .query⟩ }
    s.receptive ∧ s.mgmt.queue.length < 4 ∧ s.mgmt.active.isSome = true :=
  ⟨⟨rfl, by decide, by decide⟩, by decide, rfl⟩

theorem witness_noise : startByte ∉ [0, 194, 196, (255 : Byte)] ∧ State.reset.line.receiver = .hunting := by decide +kernel
theorem witness_bad_crc : ([1, 2] : List Byte).length = (2 : Byte).toNat ∧ half 0 0 ≠ crc [2, 2, 1, 2] := by decide +kernel
theorem witness_no_room : (crowded 10).line.receiver = .hunting ∧ (crowded 10).line.mode ≠ .echo
    ∧ 10 ≤ (crowded 10).line.waiting.length := by decide +kernel
theorem witness_bad_type : ¬ ((3 : Byte) = 1 ∨ (3 : Byte) = 2) ∧ ((1 : Byte) = 1 ∧ (6 : Byte) ≠ 5)
    ∧ ((2 : Byte) = 2 ∧ (1 : Byte).toNat < 2) := by decide

theorem witness_return_frames : (crowded 1).line.waiting = .echo [1] :: [] ∧ (crowded 0).line.sending = some (.echo [])
    ∧ (crowded 0).line.waiting = [] ∧ State.reset.line.sending = none := ⟨rfl, rfl, rfl, rfl⟩

/-- Reset with a last accepted sequence. -/
def accepted (q : Half) : State := { State.reset with line := { LinePort.reset with lastSeq := some q } }

theorem witness_sequence : ∀ q, (accepted q).attentive ∧ (accepted q).reports = Reports.none ∧ (accepted q).line.lastSeq = some q :=
  fun _ => ⟨⟨⟨rfl, Nat.zero_lt_succ 9, fun h => Mode.noConfusion h⟩, rfl⟩, rfl, rfl⟩
theorem witness_sequence_discarded : (10 : Half) - 10 = 0 ∧ 32768 ≤ ((32778 : Half) - 10).toNat := by decide
theorem witness_sequence_accepted : 1 ≤ ((11 : Half) - 10).toNat ∧ ((32777 : Half) - 10).toNat ≤ 32767
    ∧ 2 ≤ ((12 : Half) - 10).toNat := by decide
theorem witness_cycle : State.reset.cycleReady 65535 ∧ (accepted 65535).cycleReady 0 :=
  ⟨cycleReady_of_rest _ rfl rfl rfl, (witness_sequence 65535).1, rfl, rfl, .inr rfl⟩

theorem witness_no_head_frame : (inLink .off 0).cycleReady 1 ∧ (inLink .off 0).link.state = .off
    ∧ (inLink .failed 0).cycleReady 1 ∧ (inLink .failed 0).link.state = .failed :=
  ⟨cycleReady_of_rest _ rfl rfl rfl, rfl, cycleReady_of_rest _ rfl rfl rfl, rfl⟩
theorem witness_wake : (inLink .waking 31).cycleReady 1 ∧ (inLink .waking 31).link.state = .waking
    ∧ (inLink .waking 31).link.wakeCount < 32 ∧ (inLink .waking 31).link.query = none :=
  ⟨cycleReady_of_rest _ rfl rfl rfl, rfl, by decide, rfl⟩
theorem witness_wake_runs_out : (inLink .waking 32).cycleReady 1 ∧ (inLink .waking 32).link.state = .waking
    ∧ (inLink .waking 32).link.wakeCount = 32 := ⟨cycleReady_of_rest _ rfl rfl rfl, rfl, rfl⟩
theorem witness_module_loss :
    let s := { linked with link := { linked.link with seen := 0, miss := Vector.replicate 6 2 } }
    s.cycleReady 1 ∧ s.link.state = .active ∧ s.link.query = none ∧ (∀ k : SlotId, s.link.miss[k] < 3)
      ∧ ∃ k : SlotId, inSlots s.link.mapped k = true ∧ inSlots s.link.seen k = false ∧ s.link.miss[k] = 2 :=
  ⟨cycleReady_of_rest _ rfl rfl rfl, rfl, rfl, by decide +kernel, 0, by decide +kernel⟩
theorem witness_still :
    let s := { working .body 60 0 with asm := { Assembler.reset with carryPending := true } }
    linked.cycleReady 1 ∧ linked.linkUp ∧ (0 : Byte).getLsbD 0 = false ∧ linked.seq.state ≠ .running
      ∧ s.cycleReady 1 ∧ s.linkUp ∧ s.asm.carryPending = true :=
  ⟨cycleReady_of_rest _ rfl rfl rfl, linked_linkUp, rfl, by decide, cycleReady_of_rest _ rfl rfl rfl, linked_linkUp, rfl⟩

/-- The line RUNNING with no record offered, and a dwell run. -/
def starving (dwell limit : Nat) : State :=
  { linked with
    seq := { Sequencer.reset with state := .running, phase := .wait, dwell := dwell }
    config := { ConfigTable.reset with dwellLimit := limit } }

theorem witness_dwell : ∀ d n, (starving d n).cycleReady 1 ∧ (starving d n).linkUp ∧ (1 : Byte).getLsbD 0 = true
    ∧ (starving d n).seq.state = .running ∧ (starving d n).asm.carryPending = false ∧ (starving d n).seq.phase = .wait :=
  fun _ _ => ⟨cycleReady_of_rest _ rfl rfl rfl, linked_linkUp, rfl, rfl, rfl, rfl⟩
theorem witness_dwell_unoffered :
    ¬ { working .body 60 0 with lanes := Vector.replicate 4 Lane.reset }.recordsOffered := by
  intro h
  obtain ⟨r, hr, _⟩ := h 0 (by decide +kernel)
  exact nomatch (show (none : Option Ready) = some r from hr)
/-- A fitted lane that took its report and waits for the notice in flight. -/
theorem witness_dwell_notice :
    let s := { working .body 60 0 with
      lanes := Vector.replicate 4 { Lane.reset with noticeDue := true }
      reports := { Reports.none with notices := Vector.replicate 4 (some (.phase .body)) } }
    s.cycleReady 1 ∧ s.linkUp ∧ ¬ s.recordsOffered ∧ s.reports.notices[0] = some (.phase .body) := by
  refine ⟨cycleReady_of_rest _ rfl rfl rfl, linked_linkUp, fun h => ?_, rfl⟩
  obtain ⟨r, hr, _⟩ := h 0 (by decide +kernel)
  exact nomatch (show (none : Option Ready) = some r from hr)
theorem witness_dwell_limits : (starving 15 0).config.dwellLimit = 0 ∧ 14 + 1 < (starving 14 16).config.dwellLimit
    ∧ (starving 15 16).config.dwellLimit ≠ 0 ∧ (starving 15 16).config.dwellLimit ≤ 15 + 1 := by decide +kernel

theorem working_offers (p : PanelPhase) (target rests : Nat) : (working p target rests).recordsOffered := by
  intro l hl
  match l with
  | 0 => exact ⟨_, rfl, rfl⟩
  | 1 => exact absurd (show false = true from hl) (by decide)
  | 2 => exact absurd (show false = true from hl) (by decide)
  | 3 => exact absurd (show false = true from hl) (by decide)
theorem witness_stitching (p : PanelPhase) (target rests : Nat) : (working p target rests).stitching 1 1 :=
  ⟨cycleReady_of_rest _ rfl rfl rfl, linked_linkUp, rfl, rfl, rfl, fun h => Phase.noConfusion h, working_offers _ _ _⟩
theorem witness_step_travel : ∃ r, (working .body 41 0).fitted 0 = true ∧ (working .body 41 0).lanes[0].ready = some r
    ∧ ¬ r.settled (working .body 41 0).asm.pos[0] ((working .body 41 0).dmaxAt 300 0) := by
  refine ⟨_, by decide +kernel, rfl, fun h => ?_⟩
  have := h.2 (.inl rfl) 41 rfl
  revert this
  decide +kernel
theorem witness_step_rests : ∃ r, (working .body 0 1).lanes[0].ready = some r
    ∧ ¬ r.settled (working .body 0 1).asm.pos[0] ((working .body 0 1).dmaxAt 300 0) :=
  ⟨_, rfl, fun h => absurd h.1 (by decide)⟩
theorem witness_advance : ∀ l r, (working .body 40 0).fitted l = true → (working .body 40 0).lanes[l].ready = some r →
    r.settled (working .body 40 0).asm.pos[l] ((working .body 40 0).dmaxAt 300 l) := by
  intro l r hl hr
  match l with
  | 0 =>
    obtain rfl := Option.some.inj (show some _ = some r from hr)
    refine ⟨rfl, fun _ t ht => ?_⟩
    obtain rfl := Option.some.inj (show some _ = some t from ht)
    decide +kernel
  | 1 => exact absurd (show false = true from hl) (by decide)
  | 2 => exact absurd (show false = true from hl) (by decide)
  | 3 => exact absurd (show false = true from hl) (by decide)
/-- A STITCH of five needles in BODY, of which needle 2 is ENGAGED: the frame is ADVANCE and lowers needle 2 alone. -/
theorem witness_needles_down :
    let s := { working .body 40 0 with needles := { NeedleTable.reset with
      entries := (Vector.replicate 4 (Vector.replicate 48 ⟨.absent, 0⟩)).set 0 ((Vector.replicate 48 ⟨.absent, 0⟩).set 2 ⟨.engaged, 0⟩) } }
    let t := after (.cycleFrame 1 1 300 []) s
    s.receptive ∧ exec (.cycleFrame 1 1 300 []) s = .next t ∧ t.link.out = some ⟨1, .advance, [⟨0, 40, 4, false⟩], some 5, 40, none⟩
      ∧ t.link.out ≠ s.link.out :=
  ⟨(attentive_of_rest rfl rfl).1, rfl, by decide +kernel, by decide +kernel⟩
theorem witness_query_ends :
    let s := { asking (some 3) with link := { (asking (some 3)).link with seen := BitVec.allOnes 6 } }
    s.receptive ∧ s.line.mode = .normal ∧ s.reports = Reports.none ∧ s.line.lastSeq = none ∧ s.link.state = .active
      ∧ s.link.mapped &&& ~~~s.link.seen = 0 ∧ (∀ k : SlotId, s.link.miss[k] < 3) ∧ s.seq.state ≠ .running
      ∧ s.link.query = some ⟨0, 2, 1, some 3⟩ ∧ s.mgmt = ⟨[⟨7, .headQuery 0 2⟩], some .query⟩ :=
  ⟨⟨rfl, by decide, by decide⟩, rfl, rfl, rfl, rfl, by decide +kernel, by decide +kernel, by decide, rfl, rfl⟩

/-- Reset is attentive, has no prefetch and a free port: the statements of a request in a state at rest need no more. -/
theorem witness_request : State.reset.attentive ∧ State.reset.seq.prefetch = .none ∧ State.reset.store.inFlight = none
    ∧ ∀ r : Requester, State.reset.store.waiting[r] = none :=
  ⟨attentive_of_rest rfl rfl, rfl, rfl, by decide +kernel⟩
theorem witness_append : 1 ≤ ([⟨0, 1, 0, 0, 255⟩] : List SegmentWire).length
    ∧ (List.replicate 8 (⟨0, 1, 0, 0, 255⟩ : SegmentWire)).length ≤ 8 := by decide
theorem witness_normalise : segKindOf ((255 : Byte).toNat % 8) = none ∧ segKindOf ((8 : Byte).toNat % 8) = some .stitch
    ∧ segKindOf ((3 : Byte).toNat % 8) = some .trim ∧ (31 : Byte).toNat = (31 : Fin 32).val := by decide
theorem witness_last_write :
    let s := atHead (.append 3 [] [Segment.blank] true)
    Memory.wf s ∧ s.mgmt = ⟨[⟨7, .getLink⟩], some (.append 3 [] [Segment.blank] true)⟩
      ∧ s.store.inFlight = some ⟨mgmtRequester, 33, false⟩ := ⟨rfl, rfl, rfl⟩
theorem witness_access_goes_on :
    let s := atHead (.append 3 [] [Segment.blank, Segment.blank] true)
    let u := atHead (.read 3 0 2 [] false)
    Memory.wf s ∧ s.mgmt.active = some (.append 3 [] (Segment.blank :: Segment.blank :: []) true)
      ∧ u.mgmt.active = some (.read 3 0 2 [] false) ∧ u.store.inFlight = some ⟨mgmtRequester, 33, false⟩ := ⟨rfl, rfl, rfl, rfl⟩
theorem witness_last_read :
    let s := atHead (.read 3 0 1 [] false)
    s.mgmt = ⟨[⟨7, .getLink⟩], some (.read 3 0 1 [] false)⟩ ∧ s.store.inFlight = some ⟨mgmtRequester, 33, false⟩
      ∧ ∀ q : Requester, s.store.waiting[q] = none := ⟨rfl, rfl, by decide +kernel⟩
/-- Reset with three requests in the queue, the first of them slow; a change into ECHO stands behind it where asked. -/
def queued (a : Active) (echo : Bool) : State :=
  { atHead a with mgmt := ⟨[⟨7, .getLink⟩, ⟨8, .setMode (if echo then 1 else 2)⟩, ⟨9, .pause⟩], some a⟩ }

theorem witness_queue : ∀ a e, (queued a e).mgmt.active.isSome = true ∧ 1 ≤ (queued a e).mgmt.queue.length
    ∧ (queued a e).mgmt.queue.length < 4 ∧ (queued a e).line.mode ≠ .echo ∧ Request.run.wellFormed = true
    ∧ (queued a e).receptive ∧ (queued a e).link.receiver = .hunting :=
  fun _ _ => ⟨rfl, Nat.le_add_left 1 2, Nat.lt_succ_self 3, fun h => Mode.noConfusion h, rfl,
    ⟨rfl, Nat.zero_lt_succ 9, fun h => Mode.noConfusion h⟩, rfl⟩
/-- R166: the last access ends the slow request, and the two behind it are taken. -/
theorem witness_queue_goes_on :
    let u := after .managementAccessCompletion (queued (.read 3 0 1 [] false) false)
    exec .managementAccessCompletion (queued (.read 3 0 1 [] false) false) = .next u ∧ u.receptive ∧ u.mgmt = ⟨[], none⟩
      ∧ u.line.mode = .loopback :=
  ⟨rfl, ⟨by decide +kernel, by decide +kernel, by decide +kernel⟩, by decide +kernel, by decide +kernel⟩
/-- R174: a change into ECHO removes what stands behind it. -/
theorem witness_queue_dropped :
    let s := queued (.read 3 0 1 [] false) true
    let u := after .managementAccessCompletion s
    s.mgmt = ⟨⟨7, .getLink⟩ :: ⟨8, .setMode 1⟩ :: [⟨9, .pause⟩], some (.read 3 0 1 [] false)⟩
      ∧ s.store.inFlight = some ⟨mgmtRequester, 33, false⟩ ∧ s.seq.state = .stopped ∧ u.line.mode = .echo ∧ u.mgmt = ⟨[], none⟩ :=
  ⟨rfl, rfl, rfl, by decide +kernel, by decide +kernel⟩
theorem witness_queue_of_query :
    let s := { asking (some 3) with mgmt := ⟨[⟨7, .headQuery 0 2⟩, ⟨8, .linkStop⟩], some .query⟩ }
    let u := after (.moduleReturn (ModuleReturn.bytes ⟨0, 1, .ready, 0, some (1, 500)⟩)) s
    let v := after (.cycleFrame 1 0 0 [.feed]) s
    u.receptive ∧ u.mgmt = ⟨[], none⟩ ∧ u.link.state = .off ∧ v.receptive ∧ v.mgmt = ⟨[], none⟩ ∧ v.link.state = .off :=
  ⟨⟨by decide +kernel, by decide +kernel, by decide +kernel⟩, by decide +kernel, by decide +kernel,
    ⟨by decide +kernel, by decide +kernel, by decide +kernel⟩, by decide +kernel, by decide +kernel⟩

theorem witness_write_panel : State.reset.attentive ∧ (∀ t, State.reset.seq.prefetch ≠ .blocked t)
    ∧ State.reset.seq.ciStatus ≠ .current ∧ State.reset.seq.prefetch.pi = none :=
  ⟨attentive_of_rest rfl rfl, fun _ h => Prefetch.noConfusion h, by decide, rfl⟩
theorem witness_set_last : ∀ x, (inState x).attentive ∧ (inState x).seq.prefetch = .none ∧ (inState x).seq.state = x
    ∧ (inState x).link.state ≠ .active := fun _ => ⟨attentive_of_rest rfl rfl, rfl, rfl, fun h => LinkState.noConfusion h⟩
theorem witness_run_empty : (inState .stopped).seq.ring[(inState .stopped).seq.ci] = none := by decide +kernel

theorem witness_set_last_running :
    let s := { linked with seq := { Sequencer.reset with state := .running, ciStatus := .current, phase := .panel .body } }
    s.attentive ∧ s.seq.state = .running ∧ s.seq.ciStatus = .current ∧ s.seq.phase = .panel .body ∧ (31 : RingIndex) ≠ s.seq.ci
      ∧ s.seq.prefetch = .none ∧ s.seq.ring[(s.seq.ci + 1 : RingIndex)] = none ∧ (working .gap 0 0).seq.phase = .panel .gap :=
  ⟨attentive_of_rest rfl rfl, rfl, rfl, rfl, by decide, rfl, by decide +kernel, rfl⟩
theorem witness_set_last_drops :
    let s := { linked with seq := { Sequencer.reset with state := .running, ciStatus := .current, prefetch := .held 1 context } }
    s.attentive ∧ s.seq.prefetch = .held 1 context ∧ (1 : RingIndex) ≠ s.seq.ci ∧ (0 : RingIndex) = s.seq.ci
      ∧ s.seq.state = .running ∧ s.seq.ciStatus = .current :=
  ⟨attentive_of_rest rfl rfl, rfl, by decide, rfl, rfl, rfl⟩
/-- RUNNING with a prefetch BLOCKED on pattern 3, which is LOADING with segments of a largest dy. -/
def blocked (c : CiStatus) (largest : Nat) : State :=
  { linked with
    store := { PatternStore.reset with dir := PatternStore.reset.dir.set 3 ⟨.loading, [0], 1, largest, 0⟩ }
    seq := { Sequencer.reset with
      state := .running, ciStatus := c, phase := .wait, prefetch := .blocked 1, ring := Vector.replicate 32 (some panel) } }

theorem witness_retry : ∀ c, (blocked c 40).attentive ∧ (blocked c 40).seq.state = .running
    ∧ (blocked c 40).seq.prefetch = .blocked 1 ∧ (blocked c 40).store.dir[(3 : PatternId)].state = .loading
    ∧ (blocked c 40).store.dir[(3 : PatternId)].count ≠ 0 ∧ (blocked c 40).seq.ciStatus = c :=
  fun c => ⟨attentive_of_rest rfl rfl, rfl, rfl, by cases c <;> decide +kernel, by cases c <;> decide +kernel, rfl⟩
/-- R30: the retry in WAIT makes the panel current, and with a feed above Fmax it fails check 5 and pauses. -/
theorem witness_retry_in_wait :
    (after (.closePattern 1 3) (blocked .completed 40)).seq.phase = .panel .gap
      ∧ (after (.closePattern 1 3) (blocked .completed 255)).seq.phase = .panel .gap
      ∧ (after (.closePattern 1 3)
          { blocked .completed 255 with config := { ConfigTable.reset with fmax := 254 } }).seq.cause = .descriptor := by decide +kernel

/-- The panel written in slot 0, and its pattern in a state. -/
def startable (d : Descriptor) (x : DirState) : State :=
  { linked with
    seq := { Sequencer.reset with ring := Sequencer.reset.ring.set 0 (some d) }
    store := { PatternStore.reset with dir := PatternStore.reset.dir.set 3 ⟨x, [0], 2, 40, 0⟩ } }

theorem witness_run_link_down :
    let s := { startable panel .ready with link := HeadLink.reset }
    s.attentive ∧ s.seq.state = .stopped ∧ s.seq.ring[s.seq.ci] ≠ none ∧ s.link.state ≠ .active :=
  ⟨attentive_of_rest rfl rfl, rfl, by decide +kernel, by decide⟩
theorem witness_run_resumes :
    let s := { linked with seq := { Sequencer.reset with state := .paused, ciStatus := .current, prefetch := .held 1 context } }
    s.attentive ∧ s.seq.state = .paused ∧ s.link.state = .active ∧ s.seq.ciStatus = .current
      ∧ ∃ t c, s.seq.prefetch = .held t c := ⟨attentive_of_rest rfl rfl, rfl, rfl, rfl, _, _, rfl⟩
theorem witness_run_completed :
    let s := { linked with seq := { Sequencer.reset with state := .paused, ciStatus := .completed } }
    let u := { linked with seq := { Sequencer.reset with
      state := .paused, ciStatus := .completed, lvi := 31, prefetch := .held 1 context } }
    s.attentive ∧ s.seq.state = .paused ∧ s.link.state = .active ∧ s.seq.ciStatus = .completed ∧ s.seq.ci = s.seq.lvi
      ∧ u.attentive ∧ u.seq.state = .paused ∧ u.link.state = .active ∧ u.seq.ciStatus = .completed ∧ u.seq.ci ≠ u.seq.lvi
      ∧ u.seq.prefetch = .held 1 context :=
  ⟨attentive_of_rest rfl rfl, rfl, rfl, rfl, rfl, attentive_of_rest rfl rfl, rfl, rfl, rfl, by decide, rfl⟩
theorem witness_run_starts : ∀ x, (startable panel x).attentive ∧ (startable panel x).seq.state = .stopped
    ∧ (startable panel x).link.state = .active ∧ (startable panel x).seq.ciStatus = .unstarted
    ∧ (startable panel x).seq.ring[(startable panel x).seq.ci] ≠ none :=
  fun _ => ⟨attentive_of_rest rfl rfl, rfl, rfl, rfl, show (Sequencer.reset.ring.set 0 (some panel))[(0 : RingIndex)] ≠ none by decide +kernel⟩
/-- R33: with a gap of 0 the panel starts in TIE_IN, and with no tie in BODY, where the next prefetch is attempted. -/
theorem witness_run_without_gap :
    let d := { panel with gap := 0 }
    let e := { d with tieIn := false }
    let s := startable e .ready
    let t := after (.run 1) { s with seq := { s.seq with lvi := 1 } }
    (startable d .ready).firstOf d = .tieIn ∧ s.firstOf e = .body ∧ s.seq.lvi = 0
      ∧ (after (.run 1) (startable d .ready)).seq.phase = .panel .tieIn ∧ t.seq.phase = .panel .body ∧ t.seq.prefetch = .faulted 1
      ∧ t.lanes[0].buildWaiting = true := by decide +kernel
theorem witness_reset_queue : (inState .running).attentive ∧ (inState .running).seq.state = .running
    ∧ (inState .paused).seq.state ≠ .running ∧ (inState .paused).seq.current = none
    ∧ ∀ i c, (inState .paused).seq.prefetch ≠ .held i c :=
  ⟨attentive_of_rest rfl rfl, rfl, by decide, rfl, fun _ _ h => Prefetch.noConfusion h⟩

/-- The line in a phase with the Sequencer's report in flight. -/
def reporting (p : PanelPhase) (feed : Nat) (e : Bool) : State :=
  { working p 0 0 with reports := { Reports.none with sequencer := some ⟨feed, e⟩ } }

theorem witness_phase : ∀ p f e, (reporting p f e).seq.current = some context ∧ (reporting p f e).seq.phase = .panel p
    ∧ (reporting p f e).reports.sequencer = some ⟨f, e⟩ := fun _ _ _ => ⟨rfl, rfl, rfl⟩
theorem witness_phase_goes_on :
    let s := reporting .tieIn 0 false
    let u := { s with seq := { s.seq with tie := 2 } }
    9 < (reporting .gap 9 false).seq.gapRem ∧ 2 ≤ u.seq.tie ∧ u.seq.phase = .panel .tieIn
      ∧ (⟨0, false⟩ : SeqReport).repeatEnd = false ∧ (reporting .body 0 true).seq.repeats + 1 ≠ 2 := by decide +kernel
/-- R35 and R36: a tie of two goes down to one, and a repeat end that is not the last is counted. -/
theorem test_phase_goes_on :
    let s := reporting .tieIn 0 false
    let u := reporting .body 0 true
    let c : Context := { context with desc := { panel with repeats := 2 } }
    (after .sequencerConsumption { s with seq := { s.seq with tie := 2 } }).seq.tie = 1
      ∧ (after .sequencerConsumption { u with seq := { u.seq with current := some c } }).seq.repeats = 1
      ∧ (after .sequencerConsumption { u with seq := { u.seq with current := some c } }).seq.phase = .panel .body := by decide +kernel
theorem witness_phase_ends : (reporting .gap 10 false).seq.gapRem ≤ 10 ∧ (reporting .tieIn 0 false).seq.tie ≤ 1
    ∧ (reporting .body 0 true).seq.repeats + 1 = context.desc.repeats
    ∧ context.desc.tieIn = true ∧ 0 < (reporting .gap 10 false).config.tIn ∧ context.desc.tieOut = true
    ∧ 0 < (reporting .body 0 true).config.tOut ∧ context.desc.trimOut = true := by decide +kernel
/-- R29: entry to BODY with LVI other than CI attempts the next prefetch, here of an EMPTY slot. -/
theorem witness_body_attempts :
    let s := reporting .tieIn 0 false
    let u := { s with seq := { s.seq with lvi := 1 } }
    u.seq.lvi ≠ u.seq.ci ∧ u.seq.prefetch = .none ∧ (after .phaseEnd u).seq.prefetch = .faulted 1 := by decide +kernel
theorem witness_completes :
    let s := reporting .trimOut 0 false
    s.seq.current = some context ∧ s.seq.phase = .panel .trimOut ∧ s.reports.sequencer = some ⟨0, false⟩ ∧ s.seq.state = .running
      ∧ s.seq.prefetch = .none ∧ s.seq.lvi = s.seq.ci ∧ s.tally.selection = .none ∧ s.seq.ciStatus = .current
      ∧ context.desc.notice = true ∧ context.desc.pauseAfter = false ∧ s.seq.pausePending = false :=
  ⟨rfl, rfl, rfl, rfl, rfl, rfl, rfl, rfl, rfl, rfl, rfl⟩
theorem witness_completes_pausing :
    let c : Context := ⟨{ panel with pauseAfter := true }, Vector.replicate 4 4096, 4096⟩
    let s := { reporting .trimOut 0 false with seq := { (reporting .trimOut 0 false).seq with current := some c, pausePending := true } }
    s.seq.current = some c ∧ c.desc.pauseAfter = true ∧ s.seq.pausePending = true := ⟨rfl, rfl, rfl⟩

/-- Both counts stand at their value once the panel is counted. -/
theorem witness_mark_panels :
    let s := { reporting .trimOut 0 false with tally := { Tally.reset with selection := .both, panelValue := 1, action := .pause } }
    s.reports.sequencer = some ⟨0, false⟩ ∧ s.seq.state = .running ∧ s.seq.prefetch = .none ∧ s.seq.lvi = s.seq.ci
      ∧ s.seq.pausePending = false ∧ context.desc.pauseAfter = false ∧ s.tally.run = true
      ∧ s.tally.panels + 1 = s.tally.panelValue ∧ s.tally.selection = .both ∧ s.tally.metres = s.tally.metreValue := by decide +kernel
/-- R157: a mark reached by a panel that completes while PAUSED keeps the first cause, and pauses the next completion. -/
theorem witness_completes_paused :
    let s := { reporting .trimOut 0 false with
      seq := { (reporting .trimOut 0 false).seq with state := .paused, cause := .request }
      tally := { Tally.reset with selection := .panels, panelValue := 1, action := .pause } }
    s.seq.current = some context ∧ s.seq.phase = .panel .trimOut ∧ s.reports.sequencer = some ⟨0, false⟩ ∧ s.tally.run = true
      ∧ s.seq.state = .paused ∧ s.tally.panels + 1 = s.tally.panelValue ∧ (after .phaseEnd s).seq.pausePending = true
      ∧ (after .phaseEnd s).seq.cause = .request := by decide +kernel
/-- Lane 0 with its consumption report and the notice of its own phase in flight. -/
def consuming (l : Lane) : State :=
  { linked with
    lanes := (Vector.replicate 4 Lane.reset).set 0 l
    reports := { Reports.none with
      consumption := (Vector.replicate 4 .none).set 0 .due, notices := (Vector.replicate 4 none).set 0 (some (.phase .body)) } }

theorem witness_commute : (consuming (feedLane 0 0)).lanes[0].phase = .work .body
    ∧ (consuming (feedLane 0 0)).reports.consumption[0] = .due
    ∧ (consuming (feedLane 0 0)).reports.notices[0] = some (.phase .body) := by decide +kernel
theorem witness_commute_runs : ∀ s : State, (∃ v t, exec (.laneConsumptionReport 0) s = .next v ∧ exec (.phaseNotice 0) v = .next t)
    ∧ ∃ v u, exec (.phaseNotice 0) s = .next v ∧ exec (.laneConsumptionReport 0) v = .next u :=
  fun _ => ⟨⟨_, _, rfl, rfl⟩, _, _, rfl, rfl⟩

/-- A HOLD lane in BODY. -/
def holder : Lane := { Lane.reset with phase := .work .body, role := .hold, target := some 9, repeats := 1 }

theorem witness_hold : (consuming holder).lanes[0].role = .hold ∧ (consuming holder).lanes[0].phase = .work .body
    ∧ (consuming holder).reports.consumption[0] = .due ∧ (consuming holder).lanes[0].cur = .absent
    ∧ (consuming holder).lanes[0].repeats ≠ 0 ∧ (consuming holder).lanes[0].ready = none := by decide +kernel
theorem witness_hold_notice :
    let s := { consuming holder with reports := { (consuming holder).reports with consumption := Vector.replicate 4 .none } }
    s.lanes[0].phase = .work .body ∧ s.reports.consumption[0] ≠ .due ∧ s.reports.notices[0] = some (.phase .body) := by decide +kernel
theorem witness_walk : ∃ r, (consuming (feedLane 0 0)).lanes[0].role = .feed
    ∧ (consuming (feedLane 0 0)).lanes[0].phase = .work .body ∧ (consuming (feedLane 0 0)).lanes[0].cur = .record 0 0 Segment.blank
    ∧ (consuming (feedLane 0 0)).lanes[0].ready = some r ∧ r.feed = some 40 ∧ r.repeatEnd = true
    ∧ (consuming (feedLane 0 0)).reports.consumption[0] = .due ∧ 0 + 1 = Segment.blank.count
    ∧ (consuming (feedLane 0 0)).lanes[0].repeatIdx + 1 ≠ (consuming (feedLane 0 0)).lanes[0].repeats :=
  ⟨_, rfl, rfl, rfl, rfl, rfl, rfl, rfl, rfl, by decide⟩
theorem witness_walk_last : 1 + 1 < { Segment.blank with count := 3 }.count
    ∧ { feedLane 0 0 with repeatIdx := 1 }.repeatIdx + 1 = { feedLane 0 0 with repeatIdx := 1 }.repeats := by decide
theorem witness_fetch :
    let l : Lane := { feedLane 0 0 with cur := .fetch 0, nxt := .absent }
    let s := { consuming l with store := { PatternStore.reset with inFlight := some ⟨laneRequester 0, 33, false⟩ } }
    s.store.inFlight = some ⟨laneRequester 0, 33, false⟩ ∧ s.lanes[0].cur = .fetch 0 ∧ s.lanes[0].nxt = .absent
      ∧ s.lanes[0].buildWaiting = false ∧ s.lanes[0].pattern = some 3 ∧ ∀ n, s.reports.notices[0] ≠ some (.panelEnd n) :=
  ⟨rfl, rfl, rfl, rfl, rfl, fun _ h => Notice.noConfusion (Option.some.inj h)⟩
/-- A fetch of the next entry, and one that a build of the feed lane in BODY waits for. -/
theorem witness_fetch_next :
    let l : Lane := { feedLane 0 0 with nxt := .fetch 1 }
    let s := { consuming l with store := { PatternStore.reset with inFlight := some ⟨laneRequester 0, 33, false⟩ } }
    let w : Lane := { feedLane 0 0 with cur := .fetch 0, nxt := .absent, ready := none, buildWaiting := true }
    let u := { consuming w with store := { PatternStore.reset with inFlight := some ⟨laneRequester 0, 33, false⟩ } }
    (∃ k c g, s.lanes[0].cur = .record k c g) ∧ s.lanes[0].nxt = .fetch 1 ∧ s.lanes[0].pattern = some 3
      ∧ s.store.inFlight = some ⟨laneRequester 0, 33, false⟩ ∧ u.lanes[0].phase = .work .body ∧ u.lanes[0].buildWaiting = true
      ∧ (after (.laneFetchCompletion 0) u).lanes[0].ready.isSome = true :=
  ⟨⟨_, _, _, rfl⟩, rfl, rfl, rfl, rfl, rfl, by decide +kernel⟩
theorem witness_fetch_cancelled :
    let s := { linked with store := { PatternStore.reset with inFlight := some ⟨laneRequester 3, 33, true⟩ } }
    s.store.inFlight = some ⟨laneRequester 3, 33, true⟩ := rfl
/-- After a grant to management lane 3 lies at distance 4 and management itself at distance 5; here lane 3 waits alone. -/
theorem witness_arbiter :
    let st := { PatternStore.reset with waiting := (Vector.replicate 5 none).set 3 (some 33) }
    st.inFlight = none ∧ (3 : Requester) = st.lastGrant + Fin.ofNat 5 4 ∧ (4 : Requester) = st.lastGrant + Fin.ofNat 5 5
      ∧ st.waiting[3] = some 33
      ∧ (∀ e ∈ [1, 2, 3], st.waiting[st.lastGrant + Fin.ofNat 5 e] = none)
      ∧ ∀ r : Requester, PatternStore.reset.waiting[r] = none := by decide +kernel

theorem witness_tables : 128 ≤ (128 : Byte).toNat ∧ 32 ≤ (32 : Byte).toNat ∧ (31 : Byte).toNat = 31 ∧ 16 ≤ (16 : Byte).toNat ∧ (15 : Byte).toNat = 15
    ∧ 8 ≤ (8 : Byte).toNat ∧ (7 : Byte).toNat = 7 ∧ 4 ≤ (4 : Byte).toNat ∧ (3 : Byte).toNat = 3
    ∧ 6 ≤ (6 : Byte).toNat ∧ (5 : Byte).toNat = 5 ∧ ¬ 2 ≤ (1 : Half).toNat ∧ 2 ≤ (2 : Half).toNat := by decide
theorem witness_machine : ∀ x, (inState x).attentive ∧ (inState x).seq.state = x ∧ (inState x).link.state = .off
    ∧ 1 ≤ (inState x).config.fmax ∧ 1 ≤ (inState x).link.marker ∧ (inState x).link.marker ≤ 15 :=
  fun _ => ⟨attentive_of_rest rfl rfl, rfl, rfl, show 1 ≤ 300 by decide, show 1 ≤ 15 by decide, show 15 ≤ 15 by decide⟩

/-- A return of slot 0 that reports nothing. -/
def quiet (x : ModuleState) (a : Option (Nat × Half)) : ModuleReturn := ⟨0, 1, x, 0, a⟩

theorem witness_return : ∀ x n, (inLink x n).link.receiver = .hunting ∧ (inLink x n).line.mode ≠ .loopback
    ∧ (inLink x n).link.query = none ∧ (inLink x n).mgmt.queue = [] ∧ (quiet .ready none).missing = 0
    ∧ inSlots (inLink x n).link.mapped 0 = true ∧ inSlots (inLink x n).link.mapped 1 = false :=
  fun _ _ => ⟨rfl, fun h => Mode.noConfusion h, rfl, rfl, rfl, show inSlots linked.link.mapped 0 = true by decide +kernel,
    show inSlots linked.link.mapped 1 = false by decide +kernel⟩
theorem witness_return_waking : (inLink .waking 1).link.state = .waking ∧ 1 ≤ (inLink .waking 1).link.wakeCount
    ∧ (inLink .waking 0).link.wakeCount = 0 ∧ (quiet .ready none).state = .ready := by decide +kernel
theorem witness_return_bad : (List.replicate 13 (6 : Byte)).length = (13 : Byte).toNat ∧ (16 : Byte) ≠ 17 ∧ (12 : Byte) ≠ 13
    ∧ (∃ b rest, List.replicate 13 (6 : Byte) = b :: rest ∧ 6 ≤ b.toNat)
    ∧ { State.reset with line := { LinePort.reset with mode := .loopback } }.line.mode = .loopback :=
  ⟨rfl, by decide, by decide, ⟨_, _, rfl, by decide⟩, rfl⟩
theorem witness_break :
    let s := withNeedle .engaged none
    let r : ModuleReturn := ⟨0, 1, .ready, 1#48 <<< 7, none⟩
    r.answer = none ∧ s.link.receiver = .hunting ∧ s.line.mode ≠ .loopback ∧ s.link.query = none ∧ s.mgmt.queue = []
      ∧ s.link.laneOfSlot r.slot = some 0 ∧ r.missing = 1#48 <<< (7 : NeedleId).val ∧ (s.needles.entry 0 7).state = .engaged
      ∧ (s.needles.entry 0 7).breaks ≤ 255 ∧ s.needles.log.length < 64 := by decide +kernel
theorem witness_break_lost :
    let s := { withNeedle .engaged none with
      needles := { (withNeedle .engaged none).needles with log := List.replicate 64 ⟨1, 1, 0, none⟩ } }
    (s.needles.entry 0 7).state = .engaged ∧ 64 ≤ s.needles.log.length := by decide +kernel
theorem witness_answer :
    let s := asking (some 3)
    let r := quiet .ready (some (1, 500))
    s.link.receiver = .hunting ∧ s.line.mode ≠ .loopback ∧ inSlots s.link.mapped r.slot = true ∧ r.missing = 0
      ∧ r.answer = some (1, 500) ∧ s.link.query = some ⟨0, 2, 1, some 3⟩ ∧ (some 3 : Option Nat).isSome = true
      ∧ s.link.state = .active ∧ s.mgmt = ⟨[⟨7, .headQuery 0 2⟩], some .query⟩ := by decide +kernel

theorem witness_needles : (withNeedle .broken (some (0, 7))).attentive ∧ (0 : Byte).toNat = (0 : LaneId).val
    ∧ (7 : Byte).toNat = (7 : NeedleId).val ∧ 4 ≤ (4 : Byte).toNat ∧ 48 ≤ (48 : Byte).toNat :=
  ⟨attentive_of_rest rfl rfl, rfl, rfl, by decide, by decide⟩
theorem witness_feed :
    let s := { State.reset with reports := { Reports.none with feeds := [400] } }
    s.reports.feeds = 400 :: [] ∧ s.tally.run = true ∧ s.tally.steps < 20 ∧ s.tally.mm < 1000
      ∧ { s.tally with run := false }.run = false ∧ State.reset.reports.feeds = []
      ∧ ∃ t, exec .feedReport s = .next t := ⟨rfl, rfl, by decide, by decide, rfl, rfl, _, rfl⟩
/-- METRES is selected at 1, and the report carries the last step of the first metre. -/
theorem witness_mark_metres :
    let t : Tally := { Tally.reset with selection := .metres, steps := 19, mm := 999, metreValue := 1, action := .pause }
    let u := after .feedReport { State.reset with tally := t, reports := { Reports.none with feeds := [1] } }
    u.tally.metres = 1 ∧ u.seq.pausePending = true ∧ u.hasFlag .mark = true := by decide +kernel
theorem witness_set_mark : (3 : Byte) = MarkSelection.both.code ∧ (1 : Byte) = MarkAction.pause.code ∧ 4 ≤ (4 : Byte).toNat
    ∧ 2 ≤ (2 : Byte).toNat := by decide

/-- ECHO with nothing running. -/
def echoing : State := { State.reset with line := { LinePort.reset with mode := .echo } }

theorem witness_mode : (inState .paused).attentive ∧ (inState .paused).seq.state ≠ .stopped ∧ State.reset.attentive
    ∧ State.reset.seq.state = .stopped ∧ (2 : Byte) = Mode.loopback.code ∧ 3 ≤ (3 : Byte).toNat :=
  ⟨attentive_of_rest rfl rfl, by decide, attentive_of_rest rfl rfl, rfl, by decide, by decide⟩
theorem witness_echo : echoing.line.mode = .echo ∧ echoing.line.receiver = .hunting ∧ echoing.line.waiting.length < 10
    ∧ echoing.seq.state = .stopped ∧ ([] : List Byte).length ≤ 253 ∧ ¬ ((135 : Byte) = 135 ∧ ([] : List Byte).length = 1) := by
  decide +kernel

/-! #### Send points in LOOPBACK and ECHO, and queries -/

/-- The state in a mode of the line. -/
def inMode (m : Mode) (s : State) : State := { s with line := { s.line with mode := m } }

theorem witness_loopback_wakes :
    let s := inMode .loopback (inLink .waking 0)
    s.receptive ∧ s.line.mode = .loopback ∧ s.reports = Reports.none ∧ s.line.lastSeq = none ∧ s.mgmt = ⟨[], none⟩
      ∧ s.link.state = .waking ∧ s.link.wakeCount = 0 ∧ s.link.awake = 0 ∧ s.link.mapped ≠ 0 ∧ s.link.query = none :=
  ⟨⟨rfl, by decide, by decide⟩, rfl, rfl, rfl, rfl, rfl, rfl, rfl, by decide +kernel, rfl⟩
theorem witness_loopback_query :
    let s := inMode .loopback (asking none)
    s.receptive ∧ s.line.mode = .loopback ∧ s.reports = Reports.none ∧ s.mgmt = ⟨[⟨7, .headQuery 0 2⟩], some .query⟩
      ∧ s.link.state = .active ∧ s.link.mapped &&& ~~~s.link.seen = 0 ∧ (∀ k : SlotId, s.link.miss[k] < 3)
      ∧ s.seq.state ≠ .running ∧ s.link.query = some ⟨0, 2, 1, none⟩ ∧ inSlots s.link.mapped 0 = true :=
  ⟨⟨rfl, by decide, by decide⟩, rfl, rfl, rfl, rfl, by decide +kernel, by decide +kernel, by decide, rfl, by decide +kernel⟩
theorem witness_echo_cycle :
    echoing.line.receiver = .hunting ∧ echoing.line.waiting.length < 10 ∧ echoing.reports = Reports.none ∧ echoing.mgmt = ⟨[], none⟩
      ∧ echoing.link.state = .off ∧ echoing.line.lastSeq = none ∧ (inMode .echo (accepted 5)).line.lastSeq = some 5 :=
  ⟨rfl, by decide, rfl, rfl, rfl, rfl, rfl⟩
theorem witness_query_rides : ∀ x, (asking x).receptive ∧ (asking x).line.mode = .normal ∧ (asking x).reports = Reports.none
    ∧ (asking x).line.lastSeq = none ∧ (asking x).mgmt.active = some .query ∧ (asking x).link.state = .active
    ∧ (∀ k : SlotId, (asking x).link.miss[k] < 3) ∧ (asking x).link.query = some ⟨0, 2, 1, x⟩
    ∧ (asking x).link.mapped &&& ~~~(asking x).link.seen = 0 ∧ (asking x).seq.state ≠ .running :=
  fun _ => ⟨⟨rfl, Nat.zero_lt_succ 9, fun h => Mode.noConfusion h⟩, rfl, rfl, rfl, rfl, rfl,
    show ∀ k : SlotId, linked.link.miss[k] < 3 by decide +kernel, rfl,
    show linked.link.mapped &&& ~~~linked.link.seen = 0 by decide +kernel, fun h => SeqState.noConfusion h⟩
theorem witness_query_ride_counts : (∀ k, (none : Option Nat) = some k → k < 3) ∧ ∀ k, some 2 = some k → k < 3 :=
  ⟨fun _ h => (nomatch h), fun k h => by rw [← Option.some.inj h]; decide⟩
theorem witness_query_lost :
    let s := asking (some 1)
    let u := { s with link := { s.link with seen := 0, miss := Vector.replicate 6 2 } }
    u.mgmt = ⟨[⟨7, .headQuery 0 2⟩], some .query⟩ ∧ (∀ k : SlotId, u.link.miss[k] < 3)
      ∧ ∃ k : SlotId, inSlots u.link.mapped k = true ∧ inSlots u.link.seen k = false ∧ u.link.miss[k] = 2 :=
  ⟨rfl, by decide +kernel, 0, by decide +kernel⟩
/-- A return of slot 0 that answers marker 2 while 1 is outstanding, one of slot 5, and one before the query has ridden. -/
theorem witness_answer_ignored :
    let s := asking (some 0)
    let r := quiet .ready (some (2, 500))
    s.link.receiver = .hunting ∧ s.line.mode ≠ .loopback ∧ s.link.state ≠ .waking ∧ inSlots s.link.mapped r.slot = true
      ∧ r.missing = 0 ∧ (2 : Nat) ≤ 15 ∧ s.link.query = some ⟨0, 2, 1, some 0⟩ ∧ s.mgmt.active = some .query
      ∧ inSlots s.link.mapped 5 = true ∧ (0 : SlotId) ≠ 5 ∧ (asking none).link.query = some ⟨0, 2, 1, none⟩ := by decide +kernel

/-! #### Prefetches -/

/-- The panel in every slot, its pattern in a state, and the Sequencer in a state with a CI status, a prefetch and an LVI of 31. -/
def prefetching (x : DirState) (r : SeqState) (c : CiStatus) (p : Prefetch) : State :=
  { linked with
    seq := { Sequencer.reset with
      ring := Vector.replicate 32 (some panel), state := r, ciStatus := c, prefetch := p, phase := .wait, lvi := 31 }
    store := { PatternStore.reset with dir := PatternStore.reset.dir.set 3 ⟨x, [0], 2, 40, 0⟩ } }

theorem witness_prefetch_base : ∀ x r c p, (prefetching x r c p).attentive ∧ (prefetching x r c p).seq.state = r
    ∧ (prefetching x r c p).seq.ciStatus = c ∧ (prefetching x r c p).seq.prefetch = p ∧ (prefetching x r c p).link.state = .active
    ∧ (prefetching x r c p).seq.ci ≠ (prefetching x r c p).seq.lvi ∧ (prefetching x r c p).seq.phase = .wait :=
  fun _ _ _ _ => ⟨attentive_of_rest rfl rfl, rfl, rfl, rfl, rfl, show (0 : RingIndex) ≠ 31 by decide, rfl⟩

/-- What WRITE_PANEL carries for the panel. -/
def panelWire : PanelWire := ⟨#v[3, 255, 255, 255], Vector.replicate 4 0, 0, 0, 1, 10, 15⟩

theorem witness_write_retries : descriptorOf panelWire = some panel ∧ (31 : RingIndex) ≠ (prefetching .ready .running .current .none).seq.ci
    ∧ (∃ h, Prefetch.blocked 1 = .blocked h ∨ Prefetch.blocked 1 = .faulted h)
    ∧ (∃ h, Prefetch.faulted 1 = .blocked h ∨ Prefetch.faulted 1 = .faulted h)
    ∧ ∀ h ctx, Prefetch.blocked 1 ≠ .held h ctx :=
  ⟨by decide +kernel, by decide, ⟨1, .inl rfl⟩, ⟨1, .inr rfl⟩, fun _ _ h => Prefetch.noConfusion h⟩
/-- The three answers of the checks: an empty slot fails, a LOADING pattern blocks, a READY one passes. -/
theorem witness_prefetch_fails : State.reset.panelFails 1 := .inl (by decide +kernel)
theorem witness_prefetch_blocks : (prefetching .loading .running .current .none).panelBlocks 1 :=
  ⟨panel, by decide +kernel, rfl, by decide +kernel, 0, 3, rfl, by decide +kernel⟩
theorem witness_prefetch_passes : (prefetching .ready .running .current .none).panelPasses 1 panel := by
  refine ⟨by decide +kernel, by decide +kernel, fun l m h => ?_, 3, rfl, by decide +kernel⟩
  match l with
  | 0 =>
    obtain rfl := Option.some.inj (show some 3 = some m from h)
    decide +kernel
  | 1 => exact nomatch (show (none : Option PatternId) = some m from h)
  | 2 => exact nomatch (show (none : Option PatternId) = some m from h)
  | 3 => exact nomatch (show (none : Option PatternId) = some m from h)
theorem witness_set_last_attempts :
    let s := prefetching .ready .running .current .none
    let u := { s with seq := { s.seq with phase := .panel .body } }
    u.attentive ∧ u.seq.phase = .panel .body ∧ u.seq.prefetch = .none ∧ (1 : RingIndex) ≠ u.seq.ci
      ∧ Prefetch.blocked 1 = .blocked (u.seq.ci + 1) ∧ Prefetch.blocked 0 = .blocked u.seq.ci ∧ (0 : RingIndex) = u.seq.ci :=
  ⟨attentive_of_rest rfl rfl, rfl, rfl, by decide, by decide, by decide, rfl⟩

/-- The Sequencer's report in flight, with a panel of BODY alone or of more, a prefetch and an LVI. -/
def finishing (d : Descriptor) (p : PanelPhase) (f : Prefetch) (lvi : RingIndex) : State :=
  { reporting p 0 true with seq := { (reporting p 0 true).seq with
      current := some ⟨d, context.sx, context.sy⟩, prefetch := f, lvi := lvi } }

theorem witness_finishes : ∀ d p f v, (finishing d p f v).seq.current = some ⟨d, context.sx, context.sy⟩
    ∧ (finishing d p f v).seq.phase = .panel p ∧ (finishing d p f v).reports.sequencer = some ⟨0, true⟩
    ∧ (finishing d p f v).seq.state = .running ∧ (finishing d p f v).seq.pausePending = false
    ∧ (finishing d p f v).tally.selection = .none ∧ (finishing d p f v).seq.prefetch = f ∧ (finishing d p f v).seq.lvi = v :=
  fun _ _ _ _ => ⟨rfl, rfl, rfl, rfl, rfl, rfl, rfl, rfl⟩
theorem witness_finishes_paused : ∀ d p f v,
    let s := { finishing d p f v with seq := { (finishing d p f v).seq with state := .paused, cause := .break, pausePending := true } }
    s.seq.current = some ⟨d, context.sx, context.sy⟩ ∧ s.seq.phase = .panel p ∧ s.reports.sequencer = some ⟨0, true⟩
      ∧ s.tally.selection = .none ∧ s.seq.state = .paused := fun _ _ _ _ => ⟨rfl, rfl, rfl, rfl, rfl⟩
theorem witness_finishes_last_phase :
    let d := { panel with tieOut := false, trimOut := false }
    let e := { panel with trimOut := false }
    (finishing d .body .none 0).seq.repeats + 1 = d.repeats ∧ ¬ (d.tieOut = true ∧ 0 < (finishing d .body .none 0).config.tOut)
      ∧ d.trimOut = false ∧ (finishing e .tieOut .none 0).seq.tie ≤ 1 ∧ e.trimOut = false ∧ d.pauseAfter = false
      ∧ (finishing d .body .none 0).seq.ci = 0 ∧ (finishing d .body (.blocked 1) 31).seq.ci ≠ 31 := by
  decide +kernel

/-! #### Notices, builds and reports of broken threads -/

/-- Lane 0 with a notice in flight, and its consumption report where asked. -/
def noticed (n : Notice) (c : Consumption) (l : Lane) : State :=
  { linked with
    lanes := (Vector.replicate 4 Lane.reset).set 0 l
    reports := { Reports.none with
      consumption := (Vector.replicate 4 .none).set 0 c, notices := (Vector.replicate 4 none).set 0 (some n) } }

theorem witness_noticed : ∀ n c l, (noticed n c l).reports.notices[0] = some n ∧ (noticed n c l).reports.consumption[0] = c
    ∧ (noticed n c l).lanes[0] = l := fun _ _ _ => ⟨rfl, rfl, rfl⟩
theorem witness_other_phase : (feedLane 0 0).phase = .work .body ∧ PanelPhase.body ≠ .tieOut ∧ Consumption.none ≠ .due
    ∧ holder.role = .hold ∧ (feedLane 0 0).role = .feed := by decide
/-- Table 3-3: a lane in GAP that has its segment enters TIE_IN after its report and builds a TACK at once. -/
theorem witness_enters_with_segment :
    let l : Lane := { feedLane 0 0 with phase := .work .gap, ready := none, noticeDue := true, origin := 9 }
    let t := after (.phaseNotice 0) (noticed (.phase .tieIn) .none l)
    l.phase = .work .gap ∧ PanelPhase.gap ≠ .tieIn ∧ t.lanes[0].ready = some ⟨.tack, some 9, 0, 0, none, false⟩
      ∧ t.lanes[0].buildWaiting = false := by decide +kernel
theorem witness_panel_end : Lane.reset.phase = .idle ∧ (feedLane 0 0).phase = .work .body
    ∧ (∃ r, (feedLane 0 0).ready = some r ∧ r.feed = some 40) := ⟨rfl, rfl, ⟨_, rfl, rfl⟩⟩
theorem witness_panel_handed :
    let j : LaneJob := ⟨.feed, some 3, 0, 4096, 4096, 1, .gap⟩
    (j.role = .pattern ∨ j.role = .feed) ∧ j.pattern = some 3 ∧ j.first = .gap ∧ { j with role := .hold }.role = .hold
      ∧ { j with first := .body }.first = .body
      ∧ ∃ t, exec (.phaseNotice 0) (noticed (.panelEnd none) .due (feedLane 0 0)) = .next t :=
  ⟨.inr rfl, rfl, rfl, rfl, rfl, _, rfl⟩
/-- The feed lane at the end of its coordinate range, with a segment that passes it. -/
theorem witness_builds :
    let g : Segment := ⟨.stitch, 2, 127, 255, .all⟩
    let s := consuming { feedLane 0 0 with cur := .record 0 0 g, x := 131071, y := 16777215 }
    s.lanes[0].role = .feed ∧ s.lanes[0].phase = .work .body ∧ s.lanes[0].pattern = some 3 ∧ s.lanes[0].cur = .record 0 0 g
      ∧ s.reports.consumption[0] = .due ∧ 0 + 1 ≠ g.count ∧ g.kind = .stitch := by decide +kernel
theorem witness_builds_after_notice : ∀ c,
    let l : Lane := { feedLane 0 0 with phase := .work .tieIn }
    let s := noticed (.phase .body) (.noticed c) l
    s.lanes[0].phase = .work .tieIn ∧ l.role = .feed ∧ l.pattern = some 3 ∧ s.reports.consumption[0] = .noticed c
      ∧ holder.role = .hold ∧ holder.cur = .absent ∧ (noticed (.phase .body) (.noticed c) holder).reports.consumption[0] = .noticed c :=
  fun _ => ⟨rfl, rfl, rfl, rfl, rfl, rfl, rfl⟩
/-- R59: the report that comes after the notice of TIE_OUT removes the record of BODY and builds the TACK, with no notice due. -/
theorem test_report_after_notice :
    let s := noticed (.phase .tieOut) .due { feedLane 7 0 with lastMask := some 5, target := some 7 }
    let t := after (.laneConsumptionReport 0) (after (.phaseNotice 0) s)
    t.lanes[0].ready = some ⟨.tack, some 7, 5, 0, none, false⟩ ∧ t.lanes[0].noticeDue = false ∧ t.lanes[0].yFed = 40 := by decide +kernel
/-- Needles 7 and 8 are named: 7 is ENGAGED and its record is the last the log has room for, 8 is ABSENT. -/
theorem witness_threads :
    let s := { withNeedle .engaged (some (0, 7)) with
      needles := { (withNeedle .engaged (some (0, 7))).needles with log := List.replicate 63 ⟨1, 1, 0, none⟩ } }
    let r : ModuleReturn := ⟨0, 1, .ready, 0b11#48 <<< 7, none⟩
    r.answer = none ∧ s.link.receiver = .hunting ∧ s.line.mode ≠ .loopback ∧ s.link.query = none ∧ s.mgmt.queue = []
      ∧ s.link.laneOfSlot r.slot = some 0 ∧ s.needles.log.length ≤ 64 ∧ (∀ n : NeedleId, (s.needles.entry 0 n).breaks ≤ 255)
      ∧ (s.needles.entry 0 7).state = .engaged ∧ (s.needles.entry 0 8).state = .absent := by decide +kernel

/-! The invariants hold of states with something in them, from which a step goes on. -/

theorem witness_memory :
    let s := { State.reset with
      store := { PatternStore.reset with mem := [(3, ⟨.jump, 1, 0, 0, .all⟩), (9, ⟨.trim, 1, 0, 0, .all⟩)] }
      pending := [.managementAccessCompletion] }
    Memory.wf s ∧ ∃ t, step s = .next t := ⟨by decide +kernel, _, rfl⟩
theorem witness_returnSound :
    let s := { crowded 12 with mgmt := ⟨List.replicate 4 ⟨7, .run⟩, some .query⟩, pending := [.returnFrameSent] }
    s.returnSound ∧ ∃ t, step s = .next t := ⟨⟨by decide, by decide⟩, _, rfl⟩
theorem witness_linkSound :
    let s := { working .body 0 0 with pending := [.linkStop 1] }
    s.linkSound ∧ s.seq.state = .running ∧ ∃ t, step s = .next t := ⟨fun _ => rfl, rfl, _, rfl⟩
theorem witness_echoSound :
    let s := { echoing with pending := [.linkStart 1] }
    s.echoSound ∧ s.line.mode = .echo ∧ ∃ t, step s = .next t := ⟨fun _ => ⟨rfl, rfl, rfl, rfl⟩, rfl, _, rfl⟩
theorem witness_tablesSound :
    let s := { working .body 0 0 with pending := [.setConfigFgap 1 0 400] }
    s.tablesSound ∧ ∃ t, step s = .next t := by
  refine ⟨?_, _, rfl⟩
  unfold State.tablesSound
  decide +kernel
theorem witness_countersSound :
    let s := { starving 255 16 with pending := [.cycleFrame 1 1 300 []] }
    s.countersSound ∧ (inLink .waking 32).countersSound ∧ ∃ t, step s = .next t := by
  refine ⟨?_, ?_, _, rfl⟩ <;> unfold State.countersSound <;> decide +kernel
/-- Pattern 3 owns page 0, the others are free. -/
def oneOwner : PatternStore :=
  { PatternStore.reset with dir := PatternStore.reset.dir.set 3 ⟨.loading, [0], 0, 0, 0⟩, free := (List.range 512).tail }

theorem oneOwner_pages : oneOwner.layout.toList.flatMap Prod.snd = [0] := by decide +kernel
theorem tail_range_rises (n : Nat) : (List.range n).tail.Pairwise (· < ·) := List.pairwise_lt_range.tail
theorem oneOwner_free : oneOwner.free = (List.range 512).tail := by decide +kernel
theorem oneOwner_all : [0] ++ oneOwner.free = List.range 512 := by decide +kernel
theorem witness_pagesSound : oneOwner.pagesSound := by
  refine ⟨?_, oneOwner_free ▸ tail_range_rises 512, by decide +kernel⟩
  rw [oneOwner_pages, ← oneOwner_all]
  exact List.perm_append_comm
theorem witness_pages_step : ∃ t, step { State.reset with store := oneOwner, pending := [.openPattern 1 4 2] } = .next t := ⟨_, rfl⟩

end Sys2Proof.Tests
end

section
/-!
SUPPORT. The build of a ready record (R58 to R66, R75 to R82, R88, R89): what the machine builds is what Safety.lean writes out from the
tables of the spec.
-/

namespace Sys2Proof.Machine

/-! ### One lane among the lanes -/

/-- A lane replaced reads back. -/
theorem lanes_set_same (v : Vector Lane 4) (l : LaneId) (ln : Lane) : (v.set l ln)[l] = ln := by simp

/-- The other lanes stand where one is replaced. -/
theorem lanes_set_other (v : Vector Lane 4) {l k : LaneId} (h : k ≠ l) (ln : Lane) : (v.set l ln)[k] = v[k] := by
  simp [Fin.val_ne_of_ne h.symm]

/-! ### Arithmetic of a BODY record -/

/-- The model's walking test is the role test of R45. -/
theorem walks_eq (ln : Lane) : ln.walks = decide ln.walking := by
  rw [Bool.eq_iff_iff]
  simp [Lane.walks]

/-- A lane of role PATTERN or FEED walks a pattern (R45). -/
theorem walks_of_walking {ln : Lane} (hw : ln.walking) : ln.walks = true := by rw [walks_eq, decide_eq_true_iff]; exact hw

/-- STITCH and JUMP are the kinds other than TACK and TRIM (R2, R62). -/
theorem moves_eq (g : Segment) : (!(g.kind == .tack || g.kind == .trim)) = decide g.moving := by
  unfold Segment.moving; cases g.kind <;> decide

/-- The X_pat a record leaves (R75). -/
theorem satX_eq_nextX (ln : Lane) (g : Segment) : (if g.moving then satX ln.x g.dx else ln.x) = ln.nextX g := by
  unfold Lane.nextX satX clampInt Config.maxX
  by_cases hm : g.moving
  · rw [if_pos hm, if_neg (not_not_intro hm)]
    omega
  · rw [if_neg hm, if_pos hm]

/-- X_pat saturates exactly where the sum does not stand (R75). -/
theorem satXClamps_iff (ln : Lane) {g : Segment} (hm : g.moving) : satXClamps ln.x g.dx = true ↔ ln.nextX g ≠ ln.x + g.dx := by
  rw [satXClamps, decide_eq_true_iff]
  unfold Config.maxX Lane.nextX
  rw [if_neg (not_not_intro hm)]
  omega

/-- The target before its clamp (R79, R80). -/
theorem rawTarget_eq (ln : Lane) (g : Segment) : rawTarget ln.origin (ln.nextX g) ln.sx = ln.rawTarget g := rfl

/-- The target of a record (R80). -/
theorem compensatedTarget_eq (s : State) (l : LaneId) (ln : Lane) (g : Segment) :
    compensatedTarget s.link.limits[l] ln.origin (ln.nextX g) ln.sx = (s.bodyTarget l g ln).toNat := rfl

/-- The target is clamped exactly where it is not the sum of R80 (R88). -/
theorem targetClamps_iff (s : State) (l : LaneId) (ln : Lane) (g : Segment) :
    targetClamps s.link.limits[l] ln.origin (ln.nextX g) ln.sx = true ↔ s.bodyTarget l g ln ≠ ln.rawTarget g := by
  rw [targetClamps, decide_eq_true_iff, rawTarget_eq]
  unfold State.bodyTarget
  simp only
  omega

/-- The segment is the last of the lane's pattern (R54). -/
theorem last_eq (s : State) (ln : Lane) (i : Nat) :
    (i + 1 == s.segCount ln) = ln.pattern.any (fun n => i + 1 = s.store.dir[n].count) := by
  unfold State.segCount
  cases ln.pattern with
  | none => rfl
  | some n => rw [Bool.eq_iff_iff, beq_iff_eq, Option.any_some, decide_eq_true_iff]

/-! ### The draft of a BODY record, field by field -/

/-- The Y_pat a BODY record of the segment leaves, as `State.bodyBuild` has it (R77, R78). -/
def Lane.nextY (ln : Lane) (g : Segment) : Nat :=
  if ln.passesY g then 16777215 else if ln.role = .feed ∧ g.moving then ln.y + g.dy else ln.y

section BodyDraft

variable (s : State) (l : LaneId) (i c : Nat) (g : Segment)

/-- The X_pat a BODY record leaves (R75). -/
theorem bodyDraft_x (ln : Lane) : (bodyDraft (s.buildEnv l) ln i c g).x = ln.nextX g := by
  simp only [bodyDraft, moves_eq, decide_eq_true_eq, satX_eq_nextX]

/-- The target of a BODY record (R80). -/
theorem bodyDraft_target (ln : Lane) : (bodyDraft (s.buildEnv l) ln i c g).target = some (s.bodyTarget l g ln).toNat := by
  simp only [bodyDraft, moves_eq, decide_eq_true_eq, satX_eq_nextX]
  exact congrArg some (compensatedTarget_eq s l ln g)

/-- The needles of a BODY record (R63). -/
theorem segmentMask_eq : segmentMask (s.buildEnv l) g = if g.kind = .stitch ∨ g.kind = .tack then s.namedNeedles l g else 0 := by
  unfold segmentMask State.namedNeedles modeNeedles State.buildEnv
  cases g.mode <;> rfl

/-- The Y_pat a BODY record leaves (R77, R78). -/
theorem bodyDraft_y (ln : Lane) : (bodyDraft (s.buildEnv l) ln i c g).y = ln.nextY g := by
  simp only [bodyDraft, moves_eq, satY, Config.maxY, Lane.nextY, Lane.passesY, Bool.and_eq_true, beq_iff_eq, decide_eq_true_eq,
    ← and_assoc]
  by_cases hd : ln.role = .feed ∧ g.moving
  · by_cases hy : 16777215 < ln.y + g.dy <;> simp only [hd, hy, and_self, if_true, if_false, and_false]
  · simp only [hd, false_and, if_false]

/-- The feed of a BODY record (R66, R78, R82). -/
theorem bodyDraft_feed (ln : Lane) : (bodyDraft (s.buildEnv l) ln i c g).feed =
    if ln.role = .feed then
      some (if g.moving ∧ ¬ ln.passesY g then (ln.nextY g * ln.sy + 2048) / 4096 - (ln.y * ln.sy + 2048) / 4096 else 0)
    else none := by
  simp only [bodyDraft, moves_eq, recordFeed, feedPosition, Config.maxY, Lane.nextY, Lane.passesY, beq_iff_eq, decide_eq_true_eq]
  by_cases hf : ln.role = .feed
  · by_cases hm : g.moving
    · by_cases hy : 16777215 < ln.y + g.dy <;> simp only [hf, hm, hy, true_and, and_self, if_true, if_false, not_true, not_false_iff]
    · simp only [hf, hm, if_true, if_false, false_and]
  · simp only [hf, if_false]

/-- The repeat-end mark of a BODY record (R54). -/
theorem bodyDraft_repeatEnd {ln : Lane} (hn : ln.pattern = s.lanes[l].pattern) : (bodyDraft (s.buildEnv l) ln i c g).repeatEnd =
    decide (ln.role = .feed ∧ ln.pattern.any (fun n => i + 1 = s.store.dir[n].count) = true
      ∧ c + 1 = if g.kind = .trim then 1 else g.count) := by
  have hcount : s.segCount s.lanes[l] = s.segCount ln := by unfold State.segCount; rw [hn]
  simp only [bodyDraft, State.buildEnv, hcount, last_eq, Segment.effective]
  rw [Bool.eq_iff_iff]
  simp [and_assoc]

/-- A clamp is found in a BODY record (R88, R89). -/
theorem bodyDraft_clamp (ln : Lane) : (bodyDraft (s.buildEnv l) ln i c g).clamp = true ↔ s.bodyClamps l g ln := by
  simp only [bodyDraft, moves_eq, decide_eq_true_eq, satX_eq_nextX, Bool.or_eq_true, Bool.and_eq_true, beq_iff_eq, or_assoc]
  refine or_congr (and_congr_right fun hm => satXClamps_iff ln hm) (or_congr (targetClamps_iff s l ln g) ?_)
  rw [satYClamps, decide_eq_true_iff, and_assoc]
  rfl

end BodyDraft

/-! ### Record classes -/

/-- The class of a segment's record counts as the segment's kind (R61, R64, R65). -/
theorem recClass_counted (k : SegKind) : k.recClass.counted = k := by cases k <;> rfl

/-- Only a STITCH segment gives a STITCH record (R61). -/
theorem recClass_eq_stitch (k : SegKind) : k.recClass = .stitch ↔ k = .stitch := by cases k <;> decide

/-! ### Finishing a build -/

/-- A build that moves no coordinate and feeds nothing (R58, R64, R65). -/
theorem finishBuild_plain (s : State) (l : LaneId) {c : RecClass} {target : Option Nat} {mask : NeedleSet} {ln : Lane}
    (hc : c ≠ .stitch) (hd : draft (s.buildEnv l) ln = plainDraft ln c target mask) :
    finishBuild (s.buildEnv l) ln = s.plainBuild c target mask ln := by
  simp only [finishBuild, hd, plainDraft, if_neg hc]
  rfl

/-- A build of the current segment's record in BODY (R54, R61 to R66, R75 to R82). -/
theorem finishBuild_body (s : State) (l : LaneId) {i c : Nat} {g : Segment} {ln : Lane} (hn : ln.pattern = s.lanes[l].pattern)
    (hd : draft (s.buildEnv l) ln = bodyDraft (s.buildEnv l) ln i c g) :
    finishBuild (s.buildEnv l) ln = s.bodyBuild l i c g ln := by
  have hcls : (bodyDraft (s.buildEnv l) ln i c g).cls = g.kind.recClass := rfl
  have hmask : (bodyDraft (s.buildEnv l) ln i c g).mask = segmentMask (s.buildEnv l) g := rfl
  simp only [finishBuild, hd, hcls, hmask, bodyDraft_x, bodyDraft_y, bodyDraft_target, segmentMask_eq, bodyDraft_feed,
    bodyDraft_repeatEnd s l i c g hn, recClass_counted, recClass_eq_stitch, Option.isSome_some, if_true]
  rfl

/-! ### What a build makes of a lane, and its CLAMP -/

/-- A lane that walks no pattern builds a HOLD record (Table 3-5). -/
theorem draft_of_not_walking (env : BuildEnv) {ln : Lane} (hw : ¬ ln.walking) : draft env ln = holdDraft ln := by
  simp only [draft, walks_eq, hw, decide_false, Bool.false_eq_true, if_false]

/-- A build begun with nothing to wait for finishes as a record that moves and feeds nothing. -/
theorem beginBuild_plain (s : State) (l : LaneId) {c : RecClass} {target : Option Nat} {mask : NeedleSet} {ln : Lane}
    (hm : ln.mustWait = false) (hc : c ≠ .stitch) (hd : draft (s.buildEnv l) ln = plainDraft ln c target mask) :
    beginBuild (s.buildEnv l) ln = s.plainBuild c target mask ln := by
  rw [beginBuild, hm, if_neg Bool.false_ne_true, finishBuild_plain s l hc hd]

/-- A build begun without the segment it needs waits (R58). -/
theorem beginBuild_waits (env : BuildEnv) {ln : Lane} (hm : ln.mustWait = true) :
    beginBuild env ln = { ln with buildWaiting := true } := by
  rw [beginBuild, if_pos hm]

/-- Only a lane with a pattern waits for a segment (R58). -/
theorem mustWait_of_not_walking {ln : Lane} (hw : ¬ ln.walking) : ln.mustWait = false := by
  simp only [Lane.mustWait, Lane.needsSegment, walks_eq, hw, decide_false, Bool.false_and]

/-- In GAP, TIE_OUT and TRIM_OUT no build waits for a segment (R58). -/
theorem mustWait_of_no_segment_needed {ln : Lane} {p : PanelPhase} (hp : ln.phase = .work p) (hb : p ≠ .body) (ht : p ≠ .tieIn) :
    ln.mustWait = false := by
  cases p <;> simp_all [Lane.mustWait, Lane.needsSegment]

/-- With the current segment present no build waits (R58). -/
theorem mustWait_of_record {ln : Lane} {i c : Nat} {g : Segment} (hc : ln.cur = .record i c g) : ln.mustWait = false := by
  simp [Lane.mustWait, Lane.hasSegment, hc]

/-- In TIE_IN and BODY a lane with a pattern waits while its current segment is absent (R58). -/
theorem mustWait_of_absent {ln : Lane} {p : PanelPhase} (hw : ln.walking) (hp : ln.phase = .work p) (hb : p = .body ∨ p = .tieIn)
    (hc : ∀ i c g, ln.cur ≠ .record i c g) : ln.mustWait = true := by
  have hs : ln.hasSegment = false := by
    unfold Lane.hasSegment
    split
    · exact absurd ‹_› (hc _ _ _)
    · rfl
  have hwalks := walks_of_walking hw
  rcases hb with rfl | rfl <;> simp [Lane.mustWait, Lane.needsSegment, hwalks, hp, hs]

/-- A build begun for the lane's phase makes of the lane what Table 3-5 names (R58, R61). -/
theorem beginBuild_eq (s : State) (l : LaneId) {p : PanelPhase} {ln : Lane} (hn : ln.pattern = s.lanes[l].pattern)
    (hp : ln.phase = .work p) : beginBuild (s.buildEnv l) ln = s.laneBuild l p ln := by
  unfold State.laneBuild
  by_cases hw : ln.walking
  · rw [if_neg (not_not_intro hw)]
    have hwalks := walks_of_walking hw
    split
    next => -- GAP
      exact beginBuild_plain s l (mustWait_of_no_segment_needed hp (by decide) (by decide)) (by decide)
        (by simp [draft, hwalks, hp])
    next hc => -- TIE_IN
      have hm := mustWait_of_record hc
      split
      next hg => exact beginBuild_plain s l hm (by decide) (by simp [draft, hwalks, hp, hc, hg, segmentMask_eq])
      next hg => exact beginBuild_plain s l hm (by decide) (by simp [draft, hwalks, hp, hc, hg, holdDraft])
    next hc => -- BODY
      rw [beginBuild, mustWait_of_record hc, if_neg Bool.false_ne_true]
      exact finishBuild_body s l hn (by simp [draft, hwalks, hp, hc])
    next => -- TIE_OUT
      have hm := mustWait_of_no_segment_needed hp (by decide) (by decide)
      split
      next hl => exact beginBuild_plain s l hm (by decide) (by simp [draft, hwalks, hp, hl])
      next hl => exact beginBuild_plain s l hm (by decide) (by simp [draft, hwalks, hp, hl, holdDraft])
    next => -- TRIM_OUT
      exact beginBuild_plain s l (mustWait_of_no_segment_needed hp (by decide) (by decide)) (by decide)
        (by simp [draft, hwalks, hp])
    next p _ _ hgap htieOut htrimOut htieIn hbody => -- the current segment is absent
      refine beginBuild_waits _ (mustWait_of_absent hw hp ?_ fun i c g hc => ?_)
      · cases p <;> simp_all
      · cases p <;> simp_all
  · rw [if_pos hw]
    exact beginBuild_plain s l (mustWait_of_not_walking hw) (by decide) (draft_of_not_walking _ hw)

/-- Outside BODY no build finds a clamp (R88). -/
theorem buildClamps_of_not_body (env : BuildEnv) {ln : Lane} (hb : ln.phase ≠ .work .body) : buildClamps env ln = false := by
  have hd : (draft env ln).clamp = false := by
    unfold draft
    split
    · split
      case h_3 hp _ => exact absurd hp hb
      all_goals (try split) <;> rfl
    · rfl
  rw [buildClamps, hd, Bool.and_false]

/-- A build in BODY finds a clamp exactly in a record of a lane with a pattern, as R88 and R89 say. -/
theorem buildClamps_body (s : State) (l : LaneId) {ln : Lane} (hb : ln.phase = .work .body) {i c : Nat} {g : Segment}
    (hc : ln.cur = .record i c g) : buildClamps (s.buildEnv l) ln = true ↔ ln.walking ∧ s.bodyClamps l g ln := by
  rw [buildClamps, mustWait_of_record hc, Bool.not_false, Bool.true_and]
  by_cases hw : ln.walking
  · have hwalks := walks_of_walking hw
    have hd : draft (s.buildEnv l) ln = bodyDraft (s.buildEnv l) ln i c g := by simp [draft, hwalks, hb, hc]
    rw [hd, bodyDraft_clamp, and_iff_right hw]
  · simp only [draft_of_not_walking _ hw, hw, holdDraft, plainDraft, Bool.false_eq_true, false_and]

/-- A build in BODY with the current segment absent finds no clamp: it waits, or builds a HOLD record (R58, R61). -/
theorem buildClamps_absent (env : BuildEnv) {ln : Lane} (hb : ln.phase = .work .body) (hc : ∀ i c g, ln.cur ≠ .record i c g) :
    buildClamps env ln = false := by
  by_cases hw : ln.walking
  · rw [buildClamps, mustWait_of_absent hw hb (.inl rfl) hc, Bool.not_true, Bool.false_and]
  · rw [buildClamps, draft_of_not_walking _ hw, holdDraft, plainDraft, Bool.and_false]

/-- CLAMP is set by a build as R88 and R89 say. -/
theorem flags_of_buildClamps (s : State) (l : LaneId) {p : PanelPhase} {ln : Lane} (hp : ln.phase = .work p) :
    (if buildClamps (s.buildEnv l) ln then s.flags ||| Flag.clamp.mask else s.flags) = s.flagsBuilt l p ln := by
  symm
  unfold State.flagsBuilt
  split
  next hc => simp only [buildClamps_body s l hp hc]
  next p _ _ h =>
    have hn : buildClamps (s.buildEnv l) ln = false := by
      by_cases hb : p = .body
      · exact buildClamps_absent _ (hb ▸ hp) fun i c g hc => h i c g hb hc
      · exact buildClamps_of_not_body _ (by simp [hp, hb])
    rw [hn, if_neg Bool.false_ne_true]

/-- A build begun for the phase of a lane, in the machine (R58, R61, R88). -/
theorem buildLane_eq (l : LaneId) {p : PanelPhase} {s : State} (hp : s.lanes[l].phase = .work p) :
    buildLane l s =
      { s with lanes := s.lanes.set l (s.laneBuild l p s.lanes[l]), flags := s.flagsBuilt l p s.lanes[l] } := by
  rw [← flags_of_buildClamps s l hp, ← beginBuild_eq s l rfl hp, buildLane, setFlagIf]
  split <;> rfl

end Sys2Proof.Machine
end

section
/-!
SUPPORT. What a lane's consumption report does (R49, R50, R53 to R59, R84), and the statements about it.
-/

namespace Sys2Proof.Machine

/-! ### Consumption and the walk -/

/-- The consumed record counts as Safety.lean writes it out (R54, R55, R84). -/
theorem consumed_eq_spent (ln : Lane) : ln.consumed = ln.spent := by
  unfold Lane.consumed Lane.spent
  cases hr : ln.ready with
  | none => rfl
  | some r =>
    cases hf : r.feed with
    | none => simp [hf]
    | some f =>
      by_cases hw : r.repeatEnd = true ∧ ln.repeatIdx + 1 ≠ ln.repeats <;> simp [hf, hw]

/-- The walk moves as Safety.lean writes it out (R49, R53). -/
theorem advanceWalk_eq_walked (ln : Lane) : ln.advanceWalk = ln.walked := rfl

/-- What a consumption leaves of a lane. -/
theorem spent_frame (ln : Lane) :
    ln.spent.phase = ln.phase ∧ ln.spent.role = ln.role ∧ ln.spent.pattern = ln.pattern ∧ ln.spent.cur = ln.cur
      ∧ ln.spent.nxt = ln.nxt := by
  unfold Lane.spent
  split <;> simp

/-- What a move of the walk leaves of a lane. -/
theorem walked_frame (ln : Lane) :
    ln.walked.phase = ln.phase ∧ ln.walked.role = ln.role ∧ ln.walked.pattern = ln.pattern := by
  unfold Lane.walked
  (repeat' split) <;> simp

/-- The lane once it has taken its consumption report, before what follows: its record is spent, a lane with a pattern that stays in BODY
has moved its walk, and its notice is due where the report comes first (R53, R59). -/
def Lane.afterReport (ln : Lane) (c : Consumption) : Lane :=
  { (if ln.walking ∧ ln.phase = .work .body ∧ c ≠ .noticed true then ln.spent.walked else ln.spent) with noticeDue := c == .due }

/-- What a consumption report leaves of a lane. -/
theorem afterReport_frame (ln : Lane) (c : Consumption) :
    (ln.afterReport c).phase = ln.phase ∧ (ln.afterReport c).role = ln.role ∧ (ln.afterReport c).pattern = ln.pattern := by
  unfold Lane.afterReport
  split <;> simp [spent_frame, walked_frame]

/-- In BODY the walk of a lane with a pattern moves, unless a notice of another phase came before the report (R53, R59). -/
theorem afterReport_moves {ln : Lane} {p : PanelPhase} {c : Consumption} (hw : ln.walking) (hp : ln.phase = .work p)
    (hc : c ≠ .noticed true) :
    ln.afterReport c = { (if p = .body then ln.spent.walked else ln.spent) with noticeDue := c == .due } := by
  have h : (ln.walking ∧ ln.phase = .work .body ∧ c ≠ .noticed true) ↔ p = .body := by
    rw [hp, LanePhase.work.injEq]
    exact ⟨fun h => h.2.1, fun h => ⟨hw, h, hc⟩⟩
  simp only [Lane.afterReport, h]

/-- The walk stays in a lane with no pattern, and after a notice of another phase (R59). -/
theorem afterReport_stays {ln : Lane} {c : Consumption} (h : ¬ ln.walking ∨ c = .noticed true) :
    ln.afterReport c = { ln.spent with noticeDue := c == .due } := by
  have hn : ¬ (ln.walking ∧ ln.phase = .work .body ∧ c ≠ .noticed true) := fun ⟨hw, _, hc⟩ => h.elim (· hw) hc
  simp only [Lane.afterReport, if_neg hn]

/-! ### The report in the machine -/

/-- A consumption report in flight to a working lane is taken: the lane spends its record, requests what follows and builds (R53, R59). -/
theorem takeLaneReport_eq {l : LaneId} {p : PanelPhase} {s : State} (hp : s.lanes[l].phase = .work p)
    (hc : s.reports.consumption[l] ≠ .none) :
    takeLaneReport l s = buildLane l (requestFollowing l
      (setLane l (s.lanes[l].afterReport s.reports.consumption[l]) (setConsumption l .none s))) := by
  have hw : s.lanes[l].working = true := by rw [Lane.working, hp]
  unfold takeLaneReport
  split
  next h => exact absurd h hc
  next =>
    have hwalk : (s.lanes[l].spent.walks && s.lanes[l].spent.phase == .work .body && s.reports.consumption[l] != .noticed true)
        = decide (s.lanes[l].walking ∧ s.lanes[l].phase = .work .body ∧ s.reports.consumption[l] ≠ .noticed true) := by
      rw [Bool.eq_iff_iff]
      simp only [walks_eq, Lane.walking, spent_frame, Bool.and_eq_true, decide_eq_true_eq, beq_iff_eq, bne_iff_ne, and_assoc]
    rw [if_pos hw]
    simp only [consumeLane, setConsumption_lanes, consumed_eq_spent, advanceWalk_eq_walked, hwalk, decide_eq_true_eq]
    rfl

/-- With a current record, no entry behind it and the panel going on, the following segment is requested (R50). -/
theorem requestFollowing_requests {l : LaneId} {s : State} {i c : Nat} {g : Segment} (ho : s.panelOver l = false)
    (hc : s.lanes[l].cur = .record i c g) (hx : s.lanes[l].nxt = .absent) :
    requestFollowing l s =
      let j := (i + 1) % s.segCount s.lanes[l]
      requestSegment l j (onLane l (fun ln => { ln with nxt := .fetch j }) s) := by
  unfold requestFollowing
  rw [ho, hc, hx, if_neg Bool.false_ne_true]

/-- Otherwise nothing is requested (R50, log 27). -/
theorem requestFollowing_rests {l : LaneId} {s : State}
    (h : s.panelOver l = true ∨ ∀ i c g, s.lanes[l].cur = .record i c g → s.lanes[l].nxt ≠ .absent) : requestFollowing l s = s := by
  unfold requestFollowing
  split
  next => rfl
  next ho =>
    split
    next hc hx => exact absurd hx (h.resolve_left ho _ _ _ hc)
    next => rfl

/-- Either the following segment is requested, or there is nothing to request (R50). -/
theorem following_cases (l : LaneId) (s : State) :
    (∃ i c g, s.panelOver l = false ∧ s.lanes[l].cur = .record i c g ∧ s.lanes[l].nxt = .absent)
      ∨ s.panelOver l = true ∨ ∀ i c g, s.lanes[l].cur = .record i c g → s.lanes[l].nxt ≠ .absent := by
  by_cases h : ∃ i c g, s.panelOver l = false ∧ s.lanes[l].cur = .record i c g ∧ s.lanes[l].nxt = .absent
  · exact .inl h
  · refine .inr (Classical.or_iff_not_imp_left.mpr fun ho i c g hc hx => h ⟨i, c, g, ?_, hc, hx⟩)
    rwa [Bool.not_eq_true] at ho

/-- A lane that walks a pattern requests the segment that follows (R50). -/
theorem requestFollowing_eq (l : LaneId) {n : PatternId} {s : State} (hn : s.lanes[l].pattern = some n) :
    requestFollowing l s =
      { s with lanes := s.lanes.set l (s.following l n s.lanes[l] s.store).1, store := (s.following l n s.lanes[l] s.store).2 } := by
  obtain ⟨i, c, g, ho, hc, hx⟩ | h := following_cases l s
  · have hcount : s.segCount s.lanes[l] = s.store.dir[n].count := by rw [State.segCount, hn]
    simp only [requestFollowing_requests ho hc hx, requestSegment, onLane_lanes, lanes_set_same, hn, hcount, State.following, ho, hc,
      hx]
    rfl
  · have hw : s.following l n s.lanes[l] s.store = (s.lanes[l], s.store) := by
      unfold State.following
      split
      next ho hc hx => exact absurd hx (h.resolve_left (by simp [ho]) _ _ _ hc)
      next => rfl
    have hs : s.lanes.set l s.lanes[l] = s.lanes := Vector.set_getElem_self _
    rw [requestFollowing_rests h, hw, hs]

/-! ### The build that follows the report, said from the state before it -/

/-- What a build makes of a lane depends on the tables, the link and the directory alone (R58). -/
theorem laneBuild_congr {s t : State} (hi : t.interlock = s.interlock) (hn : t.needleSets = s.needleSets) (hl : t.link = s.link)
    (hd : t.store.dir = s.store.dir) (l : LaneId) (p : PanelPhase) (ln : Lane) : t.laneBuild l p ln = s.laneBuild l p ln := by
  simp only [State.laneBuild, State.plainBuild, State.bodyBuild, State.namedNeedles, State.bodyTarget, hi, hn, hl, hd]

/-- The flags a build leaves depend on the flags before it and on the link alone (R88). -/
theorem flagsBuilt_congr {s t : State} (hf : t.flags = s.flags) (hl : t.link = s.link) (l : LaneId) (p : PanelPhase) (ln : Lane) :
    t.flagsBuilt l p ln = s.flagsBuilt l p ln := by
  unfold State.flagsBuilt State.bodyClamps State.bodyTarget
  rw [hf, hl]

/-- What the request for the following segment leaves (R50). -/
theorem following_frame (s : State) (l : LaneId) (n : PatternId) (ln : Lane) (st : PatternStore) :
    (s.following l n ln st).1.phase = ln.phase ∧ (s.following l n ln st).2.dir = st.dir := by
  unfold State.following
  split <;> simp

/-- The build that follows a request, said from the state before both. -/
theorem buildLane_requested {l : LaneId} {p : PanelPhase} (s : State) (ln : Lane) (st : PatternStore) (hp : ln.phase = .work p)
    (hd : st.dir = s.store.dir) :
    buildLane l { s with lanes := s.lanes.set l ln, store := st } =
      { s with lanes := s.lanes.set l (s.laneBuild l p ln), store := st, flags := s.flagsBuilt l p ln } := by
  obtain ⟨t, ht⟩ : ∃ t : State, t = { s with lanes := s.lanes.set l ln, store := st } := ⟨_, rfl⟩
  have hln : t.lanes[l] = ln := by rw [ht, lanes_set_same]
  have hdir : t.store.dir = s.store.dir := by rw [ht, ← hd]
  have hbuild : t.laneBuild l p ln = s.laneBuild l p ln := laneBuild_congr (by rw [ht]) (by rw [ht]) (by rw [ht]) hdir l p ln
  have hflags : t.flagsBuilt l p ln = s.flagsBuilt l p ln := flagsBuilt_congr (by rw [ht]) (by rw [ht]) l p ln
  rw [← ht, buildLane_eq l (hln ▸ hp), hln, hbuild, hflags, ht]
  simp only [Vector.set_set]

/-- A lane with a pattern takes its consumption report (R50, R53 to R59). -/
theorem takeLaneReport_walking {l : LaneId} {p : PanelPhase} {n : PatternId} {s : State} (hp : s.lanes[l].phase = .work p)
    (hn : s.lanes[l].pattern = some n) (hc : s.reports.consumption[l] ≠ .none) :
    let w := s.following l n (s.lanes[l].afterReport s.reports.consumption[l]) s.store
    takeLaneReport l s =
      { s with
        lanes := s.lanes.set l (s.laneBuild l p w.1)
        store := w.2
        flags := s.flagsBuilt l p w.1
        reports := { s.reports with consumption := s.reports.consumption.set l .none } } := by
  intro w
  obtain ⟨hphase, -, hpat⟩ := afterReport_frame s.lanes[l] s.reports.consumption[l]
  obtain ⟨hwp, hwd⟩ := following_frame s l n (s.lanes[l].afterReport s.reports.consumption[l]) s.store
  rw [takeLaneReport_eq hp hc, requestFollowing_eq l (n := n) (by rw [setLane_lanes, lanes_set_same, hpat, hn])]
  simp only [setLane_lanes, lanes_set_same, Vector.set_set]
  exact buildLane_requested (setConsumption l .none s) w.1 w.2 (hwp.trans (hphase.trans hp)) hwd

/-- A lane with an empty buffer takes its consumption report (R53 to R59). -/
theorem takeLaneReport_absent {l : LaneId} {p : PanelPhase} {s : State} (hp : s.lanes[l].phase = .work p)
    (ha : (s.lanes[l].afterReport s.reports.consumption[l]).cur = .absent) (hc : s.reports.consumption[l] ≠ .none) :
    takeLaneReport l s =
      { s with
        lanes := s.lanes.set l (s.laneBuild l p (s.lanes[l].afterReport s.reports.consumption[l]))
        flags := s.flagsBuilt l p (s.lanes[l].afterReport s.reports.consumption[l])
        reports := { s.reports with consumption := s.reports.consumption.set l .none } } := by
  obtain ⟨hphase, -, -⟩ := afterReport_frame s.lanes[l] s.reports.consumption[l]
  rw [takeLaneReport_eq hp hc, requestFollowing_rests (.inr (by simp only [setLane_lanes, lanes_set_same, ha, reduceCtorEq,
    false_imp_iff, implies_true]))]
  exact buildLane_requested (setConsumption l .none s) _ s.store (hphase.trans hp) rfl

end Sys2Proof.Machine

open Sys2Proof Sys2Proof.Machine

/-- Settles O40: the report's effects, the request for what follows and the build are each what Safety.lean writes out, in a lane with
a pattern and in a HOLD lane. -/
theorem consumptionBuildsNextRecord : Obligations.ConsumptionBuildsNextRecord := by
  unfold Obligations.ConsumptionBuildsNextRecord
  intro l p s hp ln ans stays moves
  refine ⟨fun n hw hn => ?_, fun hr ha => ?_⟩
  · have follows : ∀ c, s.reports.consumption[l] = c → c ≠ .none →
        exec (.laneConsumptionReport l) s = ans (s.following l n (ln.afterReport c) s.store) := by
      rintro c rfl hc
      exact congrArg _ (takeLaneReport_walking hp hn hc)
    refine ⟨fun hc => ?_, fun hc => ?_, fun hc => ?_⟩
    · rw [follows _ hc (by decide), afterReport_moves hw hp (by decide)]
      rfl
    · rw [follows _ hc (by decide), afterReport_moves hw hp (by decide)]
      rfl
    · rw [follows _ hc (by decide), afterReport_stays (.inr rfl)]
      rfl
  · have hw : ¬ ln.walking := by simp only [Lane.walking, hr, reduceCtorEq, or_self, not_false_iff]
    have builds : ∀ c, s.reports.consumption[l] = c → c ≠ .none →
        exec (.laneConsumptionReport l) s = ans (ln.afterReport c, s.store) := by
      rintro c rfl hc
      have hcur : (ln.afterReport s.reports.consumption[l]).cur = .absent := by
        obtain ⟨-, -, -, hcur, -⟩ := spent_frame ln
        rw [afterReport_stays (.inl hw)]
        exact hcur.trans ha
      exact congrArg _ (takeLaneReport_absent hp hcur hc)
    refine ⟨fun hc => ?_, fun changed hc => ?_⟩
    · rw [builds _ hc (by decide), afterReport_stays (.inl hw)]
      rfl
    · rw [builds _ hc (by simp), afterReport_stays (.inl hw)]
      rfl

end

section
/-!
SUPPORT. What a consumption report leaves of the lanes, and the statement about the walk of the feed lane (R53 to R55, R84).
-/

namespace Sys2Proof.Machine

/-- What a build leaves of a lane (R58). -/
theorem beginBuild_frame (env : BuildEnv) (ln : Lane) :
    (beginBuild env ln).phase = ln.phase ∧ (beginBuild env ln).cur = ln.cur ∧ (beginBuild env ln).yFed = ln.yFed
      ∧ (beginBuild env ln).repeatIdx = ln.repeatIdx ∧ (beginBuild env ln).stitchIdx = ln.stitchIdx
      ∧ (beginBuild env ln).noticeDue = ln.noticeDue := by
  unfold beginBuild finishBuild
  split <;> simp

/-- A build changes its own lane alone. -/
theorem buildLane_lanes (l : LaneId) (s : State) :
    (buildLane l s).lanes = s.lanes.set l (beginBuild (s.buildEnv l) s.lanes[l]) := by
  unfold buildLane setFlagIf
  split <;> rfl

/-- The request for the following segment changes the next entry of its own lane alone (R50). -/
theorem requestFollowing_lanes (l : LaneId) (s : State) :
    ∃ b, (requestFollowing l s).lanes = s.lanes.set l { s.lanes[l] with nxt := b } := by
  obtain ⟨i, c, g, ho, hc, hx⟩ | h := following_cases l s
  · rw [requestFollowing_requests ho hc hx]
    exact ⟨.fetch ((i + 1) % s.segCount s.lanes[l]), by simp only [requestSegment_frame]; rfl⟩
  · rw [requestFollowing_rests h]
    exact ⟨s.lanes[l].nxt, (Vector.set_getElem_self _).symm⟩

/-- A consumption report changes its own lane alone: the report's effects, a request for the following segment, and a build. -/
theorem takeLaneReport_lanes {l : LaneId} {p : PanelPhase} {s : State} (hp : s.lanes[l].phase = .work p)
    (hc : s.reports.consumption[l] ≠ .none) :
    ∃ env b, (takeLaneReport l s).lanes =
      s.lanes.set l (beginBuild env { s.lanes[l].afterReport s.reports.consumption[l] with nxt := b }) := by
  rw [takeLaneReport_eq hp hc, buildLane_lanes]
  obtain ⟨b, hb⟩ := requestFollowing_lanes l (setLane l (s.lanes[l].afterReport s.reports.consumption[l]) (setConsumption l .none s))
  rw [setLane_lanes, lanes_set_same, Vector.set_set, setConsumption_lanes] at hb
  exact ⟨_, b, by rw [hb, lanes_set_same, Vector.set_set]⟩

/-- The record of a feed lane counts as it is consumed (R54, R55, R84). -/
theorem spent_counts {ln : Lane} {r : Ready} {f : Nat} (hr : ln.ready = some r) (hf : r.feed = some f) :
    ln.spent.yFed = ln.yFed + f
      ∧ ln.spent.repeatIdx = (if r.repeatEnd = true ∧ ln.repeatIdx + 1 ≠ ln.repeats then ln.repeatIdx + 1 else ln.repeatIdx)
      ∧ ln.spent.stitchIdx = if r.repeatEnd = true ∧ ln.repeatIdx + 1 ≠ ln.repeats then 0 else ln.stitchIdx + 1 := by
  simp [Lane.spent, hr, hf]

/-- A record consumed in a lane that feeds nothing counts nowhere (R55, R84). -/
theorem spent_no_feed {ln : Lane} (hf : ∀ r, ln.ready = some r → r.feed = none) :
    ∃ u, ln.spent = { ln with ready := none, undo := u } := by
  unfold Lane.spent
  split
  next hr => exact ⟨ln.undo, by rw [← hr]⟩
  next r hr => exact ⟨none, by simp [hf r hr]⟩

/-- The walk moves on by one cycle, or to the next entry (R49, R53). -/
theorem walked_cur {ln : Lane} {i c : Nat} {g : Segment} (hc : ln.cur = .record i c g) :
    ln.walked.cur = if c + 1 = if g.kind = .trim then 1 else g.count then ln.nxt else .record i (c + 1) g := by
  simp only [Lane.walked, hc]
  exact apply_ite Lane.cur _ _ _

/-- A move of the walk counts nothing (R84). -/
theorem walked_counts (ln : Lane) :
    ln.walked.yFed = ln.yFed ∧ ln.walked.repeatIdx = ln.repeatIdx ∧ ln.walked.stitchIdx = ln.stitchIdx := by
  unfold Lane.walked
  (repeat' split) <;> simp

end Sys2Proof.Machine

open Sys2Proof Sys2Proof.Machine

/-- Settles O39: what follows the report changes neither the counts nor the current entry, which are those of the spent record and the
moved walk. -/
theorem walkMovesAtConsumption : Obligations.WalkMovesAtConsumption := by
  unfold Obligations.WalkMovesAtConsumption
  intro l s i c g r f hrole hp hcur hr hf hc
  have hne : s.reports.consumption[l] ≠ .none := by rw [hc]; decide
  obtain ⟨env, b, hlanes⟩ := takeLaneReport_lanes hp hne
  have hln : (takeLaneReport l s).lanes[l] = beginBuild env { s.lanes[l].afterReport .due with nxt := b } := by
    rw [hlanes, lanes_set_same, hc]
  have hafter : s.lanes[l].afterReport .due = { s.lanes[l].spent.walked with noticeDue := true } := by
    rw [afterReport_moves (.inr hrole) hp (by decide), if_pos rfl]
    rfl
  obtain ⟨-, -, -, hcurS, hnxtS⟩ := spent_frame s.lanes[l]
  obtain ⟨hyS, hrepS, hstS⟩ := spent_counts hr hf
  obtain ⟨hyW, hrepW, hstW⟩ := walked_counts s.lanes[l].spent
  have hcurW := walked_cur (hcurS.trans hcur)
  rw [hnxtS] at hcurW
  obtain ⟨-, hcurB, hyB, hrepB, hstB, hdueB⟩ := beginBuild_frame env { s.lanes[l].afterReport .due with nxt := b }
  rw [← hln, hafter] at hcurB hyB hrepB hstB hdueB
  refine ⟨takeLaneReport l s, rfl, hyB.trans (hyW.trans hyS), fun hlt => ?_, fun heq => ?_, fun hend hrep => ?_, fun hend => ?_,
    hdueB, fun k hk => ?_, ?_⟩
  · exact hcurB.trans (hcurW.trans (if_neg (Nat.ne_of_lt hlt)))
  · exact hcurB.trans (hcurW.trans (if_pos heq))
  · have hwrap : r.repeatEnd = true ∧ s.lanes[l].repeatIdx + 1 ≠ s.lanes[l].repeats := ⟨hend, hrep⟩
    rw [if_pos hwrap] at hrepS hstS
    exact ⟨hrepB.trans (hrepW.trans hrepS), hstB.trans (hstW.trans hstS)⟩
  · have hwrap : ¬ (r.repeatEnd = true ∧ s.lanes[l].repeatIdx + 1 ≠ s.lanes[l].repeats) := by
      rintro ⟨he, hr⟩
      exact hend.elim (fun h => by simp [h] at he) hr
    rw [if_neg hwrap] at hrepS hstS
    exact ⟨hrepB.trans (hrepW.trans hrepS), hstB.trans (hstW.trans hstS)⟩
  · rw [hlanes, lanes_set_other _ hk]
  · simp only [takeLaneReport_frame, and_self]

end

section
/-!
SUPPORT. A phase notice of the lane's own phase (R59), and the statement about it and the consumption report.
-/

namespace Sys2Proof.Machine

/-- The notice in flight to a lane is taken and the lane waits for none (R59). -/
def clearNotice (l : LaneId) (s : State) : State := onLane l (fun ln => { ln with noticeDue := false }) (setNotice l none s)

/-- What a notice of a phase makes of the lane. -/
theorem clearNotice_lane (l : LaneId) (s : State) : (clearNotice l s).lanes[l] = { s.lanes[l] with noticeDue := false } :=
  lanes_set_same _ _ _

/-- A notice of the lane's own phase that comes before the report leaves the lane as it is (R59). -/
theorem takeNotice_before {l : LaneId} {p : PanelPhase} {s : State} (hp : s.lanes[l].phase = .work p)
    (hn : s.reports.notices[l] = some (.phase p)) (hc : s.reports.consumption[l] = .due) :
    takeNotice l s = setConsumption l (.noticed false) (setNotice l none s) := by
  simp only [takeNotice, hn, Lane.working, hp, takePhase, setNotice_reports, setNotice_lanes, hc, if_true]

/-- A notice of the lane's own phase that comes when no report is due clears notice due (R59). -/
theorem takeNotice_after {l : LaneId} {p : PanelPhase} {s : State} (hp : s.lanes[l].phase = .work p)
    (hn : s.reports.notices[l] = some (.phase p)) (hc : s.reports.consumption[l] ≠ .due) : takeNotice l s = clearNotice l s := by
  simp only [takeNotice, hn, Lane.working, hp, if_true]
  exact (if_neg hc).trans (if_pos hp)

/-- A notice of a phase is taken, whatever was in flight. -/
theorem clearNotice_panelOver (l : LaneId) (s : State) : (clearNotice l s).panelOver l = false := by
  simp [State.panelOver, clearNotice]

/-- A change of the lane that does not look at notice due, and a notice of a phase, may come in either order. -/
theorem onLane_clearNotice {f : Lane → Lane} (hf : ∀ ln : Lane, f { ln with noticeDue := false } = { f ln with noticeDue := false })
    (l : LaneId) (s : State) : onLane l f (clearNotice l s) = clearNotice l (onLane l f s) := by
  simp only [clearNotice, onLane, setLane, setNotice, lanes_set_same, Vector.set_set, hf]

/-- A request for a segment and a notice of a phase may come in either order. -/
theorem requestSegment_clearNotice (l : LaneId) (i : Nat) (s : State) :
    requestSegment l i (clearNotice l s) = clearNotice l (requestSegment l i s) := by
  have hpat : (clearNotice l s).lanes[l].pattern = s.lanes[l].pattern := by rw [clearNotice_lane]
  unfold requestSegment
  rw [hpat]
  cases s.lanes[l].pattern <;> rfl

/-- A request for the following segment and a notice of a phase may come in either order. -/
theorem requestFollowing_clearNotice {l : LaneId} {s : State} (ho : s.panelOver l = false) :
    requestFollowing l (clearNotice l s) = clearNotice l (requestFollowing l s) := by
  have hln := clearNotice_lane l s
  obtain ⟨i, c, g, -, hc, hx⟩ | h := following_cases l s
  · have hcount : (clearNotice l s).segCount (clearNotice l s).lanes[l] = s.segCount s.lanes[l] := by rw [hln]; rfl
    have hc' : (clearNotice l s).lanes[l].cur = .record i c g := by rw [hln]; exact hc
    have hx' : (clearNotice l s).lanes[l].nxt = .absent := by rw [hln]; exact hx
    rw [requestFollowing_requests ho hc hx, requestFollowing_requests (clearNotice_panelOver l s) hc' hx', hcount]
    simp only
    rw [onLane_clearNotice (fun _ => rfl), requestSegment_clearNotice]
  · have h' := h.resolve_left (by simp [ho])
    rw [requestFollowing_rests h, requestFollowing_rests (.inr (by rw [hln]; exact h'))]

/-- A build and a notice of a phase may come in either order. -/
theorem buildLane_clearNotice (l : LaneId) (s : State) : buildLane l (clearNotice l s) = clearNotice l (buildLane l s) := by
  have henv : (clearNotice l s).buildEnv l = s.buildEnv l := by
    unfold State.buildEnv
    rw [clearNotice_lane]
    rfl
  have hclamp : buildClamps (s.buildEnv l) (clearNotice l s).lanes[l] = buildClamps (s.buildEnv l) s.lanes[l] := by
    rw [clearNotice_lane]
    rfl
  have hbuild : ∀ ln : Lane, beginBuild (s.buildEnv l) { ln with noticeDue := false }
      = { beginBuild (s.buildEnv l) ln with noticeDue := false } := by
    intro ln
    have hm : Lane.mustWait { ln with noticeDue := false } = ln.mustWait := rfl
    unfold beginBuild
    rw [hm]
    cases ln.mustWait <;> rfl
  rw [buildLane, henv, hclamp, onLane_clearNotice hbuild, buildLane]
  cases buildClamps (s.buildEnv l) s.lanes[l] <;> rfl

/-- A notice of the lane's own phase before the report leaves the lane as the report makes it, but for notice due (R59). -/
theorem afterReport_noticed (ln : Lane) : ln.afterReport (.noticed false) = { ln.afterReport .due with noticeDue := false } := by
  simp [Lane.afterReport]

/-- A taken consumption report leaves the lane in its phase, and is gone (R59). -/
theorem takeLaneReport_leaves {l : LaneId} {p : PanelPhase} {s : State} (hp : s.lanes[l].phase = .work p)
    (hc : s.reports.consumption[l] ≠ .none) :
    (takeLaneReport l s).lanes[l].phase = .work p ∧ (takeLaneReport l s).reports.consumption[l] = .none := by
  obtain ⟨env, b, hlanes⟩ := takeLaneReport_lanes hp hc
  obtain ⟨hphase, -⟩ := afterReport_frame s.lanes[l] s.reports.consumption[l]
  obtain ⟨hbuilt, -⟩ := beginBuild_frame env { s.lanes[l].afterReport s.reports.consumption[l] with nxt := b }
  constructor
  · rw [hlanes, lanes_set_same]
    exact hbuilt.trans (hphase.trans hp)
  · rw [takeLaneReport_eq hp hc]
    simp

/-- A consumption report and a notice of the lane's own phase may come in either order (R59). -/
theorem takeNotice_takeLaneReport {l : LaneId} {p : PanelPhase} {s : State} (hp : s.lanes[l].phase = .work p)
    (hc : s.reports.consumption[l] = .due) (hn : s.reports.notices[l] = some (.phase p)) :
    takeNotice l (takeLaneReport l s) = takeLaneReport l (takeNotice l s) := by
  have hne : s.reports.consumption[l] ≠ .none := by rw [hc]; decide
  obtain ⟨hphase, hgone⟩ := takeLaneReport_leaves hp hne
  have hover : (setLane l (s.lanes[l].afterReport .due) (setConsumption l .none s)).panelOver l = false := by
    simp only [State.panelOver, setLane_reports, setConsumption_reports, hn]
  have hreport : (takeNotice l s).reports.consumption[l] = .noticed false := by rw [takeNotice_before hp hn hc]; simp
  have hphase' : (takeNotice l s).lanes[l].phase = .work p := by rw [takeNotice_before hp hn hc]; exact hp
  calc takeNotice l (takeLaneReport l s)
      = clearNotice l (takeLaneReport l s) :=
        takeNotice_after hphase (by simpa using hn) (by rw [hgone]; decide)
    _ = buildLane l (requestFollowing l (clearNotice l
          (setLane l (s.lanes[l].afterReport .due) (setConsumption l .none s)))) := by
        rw [takeLaneReport_eq hp hne, hc, ← buildLane_clearNotice, ← requestFollowing_clearNotice hover]
    _ = takeLaneReport l (takeNotice l s) := by
        rw [takeLaneReport_eq hphase' (by rw [hreport]; decide), hreport, takeNotice_before hp hn hc, setConsumption_lanes,
          setNotice_lanes, afterReport_noticed]
        simp only [clearNotice, onLane, setLane, setNotice, setConsumption, lanes_set_same, Vector.set_set]

/-- A lane that walks no pattern sets no flag as it builds (R88). -/
theorem flagsBuilt_of_not_walking (s : State) (l : LaneId) (p : PanelPhase) {ln : Lane} (hw : ¬ ln.walking) :
    s.flagsBuilt l p ln = s.flags := by
  unfold State.flagsBuilt
  split
  · exact if_neg fun h => hw h.1
  · rfl

/-- A lane that walks no pattern builds a HOLD record at its present target (Table 3-5). -/
theorem laneBuild_of_not_walking (s : State) (l : LaneId) (p : PanelPhase) {ln : Lane} (hw : ¬ ln.walking) :
    s.laneBuild l p ln = s.plainBuild .hold ln.target 0 ln := by
  unfold State.laneBuild
  exact if_pos hw

/-- A HOLD lane that takes its consumption report holds on, at its present target (R56, R58, R61, R64, R65). -/
theorem takeLaneReport_hold {l : LaneId} {p : PanelPhase} {s : State} (hr : s.lanes[l].role = .hold)
    (hp : s.lanes[l].phase = .work p) (hc : s.reports.consumption[l] = .due) (ha : s.lanes[l].cur = .absent)
    (hf : ∀ r, s.lanes[l].ready = some r → r.feed = none) :
    takeLaneReport l s =
      { s with
        lanes := s.lanes.set l
          { s.lanes[l] with
            ready := some ⟨.hold, s.lanes[l].target, 0, s.interlock[interlockIndex s.lanes[l].lastClass.index 1], none, false⟩
            lastClass := .jump
            noticeDue := true
            buildWaiting := false
            undo := some ⟨s.lanes[l].x, s.lanes[l].y, s.lanes[l].lastClass, s.lanes[l].target, s.lanes[l].lastMask⟩ }
        reports := { s.reports with consumption := s.reports.consumption.set l .none } } := by
  have hw : ¬ s.lanes[l].walking := by simp only [Lane.walking, hr, reduceCtorEq, or_self, not_false_iff]
  obtain ⟨u, hu⟩ := spent_no_feed hf
  have hafter : s.lanes[l].afterReport .due = { s.lanes[l] with ready := none, undo := u, noticeDue := true } := by
    rw [afterReport_stays (.inl hw), hu]
    rfl
  have hw' : ¬ (s.lanes[l].afterReport .due).walking := by rw [hafter]; exact hw
  have ha' : (s.lanes[l].afterReport .due).cur = .absent := by rw [hafter]; exact ha
  have hbuild : s.laneBuild l p (s.lanes[l].afterReport .due)
      = s.plainBuild .hold s.lanes[l].target 0 (s.lanes[l].afterReport .due) := by
    rw [laneBuild_of_not_walking _ _ _ hw', hafter]
  have htarget : (if s.lanes[l].target.isSome then s.lanes[l].target else s.lanes[l].target) = s.lanes[l].target := ite_self _
  rw [takeLaneReport_absent hp (hc ▸ ha') (by rw [hc]; decide), hc, flagsBuilt_of_not_walking _ _ _ hw', hbuild, hafter,
    State.plainBuild]
  simp only [htarget]
  rfl

end Sys2Proof.Machine

open Sys2Proof Sys2Proof.Machine

/-- Settles O36: a notice of the lane's own phase commutes with the request and with the build that follow the report. -/
theorem reportAndNoticeOfOnePhase : Obligations.ReportAndNoticeOfOnePhase := by
  unfold Obligations.ReportAndNoticeOfOnePhase
  refine ⟨?_, fun l p s hr hp => ⟨fun hc ha _ hf => ?_, fun hc hn => ?_⟩⟩
  · rintro l p s t u hp hc hn ⟨v, hv, ht⟩ ⟨w, hw, hu⟩
    obtain rfl : takeLaneReport l s = v := Host.Outcome.next.inj hv
    obtain rfl : takeNotice l s = w := Host.Outcome.next.inj hw
    obtain rfl : takeNotice l (takeLaneReport l s) = t := Host.Outcome.next.inj ht
    obtain rfl : takeLaneReport l (takeNotice l s) = u := Host.Outcome.next.inj hu
    exact takeNotice_takeLaneReport hp hc hn
  · exact congrArg _ (takeLaneReport_hold hr hp hc ha hf)
  · exact congrArg _ (takeNotice_after hp hn hc)
end

section
/-!
SUPPORT. Requests that end at once at a part at rest, and the statements about the table writes and the reports (R71, R73, R91, R97, R128,
R173, R177).
-/

namespace Sys2Proof.Machine

/-! ### A request that ends at once -/

/-- A request that reaches a part at rest and ends at once is answered after its effects, with the queue empty again (R165 to R167). -/
theorem submit_answered {s t : State} {tag : Byte} {r : Request} {result : Result} {data : List Byte} (h : s.attentive)
    (hp : parseRequest r.code r.args = .request r) (hl : r.args.length ≤ 253) (ht : t.mgmt = ⟨[], none⟩)
    (hx : execHead r { s with mgmt := ⟨[⟨tag, r⟩], none⟩ } = finish ({ t with mgmt := ⟨[⟨tag, r⟩], none⟩ }, ⟨result, data⟩)) :
    submit tag r s = answered tag r result data t := by
  rw [submit_attentive h tag hp hl, hx, finish, finishHead_alone _ rfl]
  exact congrArg _ (with_mgmt_idle ht)

/-! ### Numbers -/

/-- A byte above a range names nothing (R181). -/
theorem indexOf_of_le {n : Nat} {b : Byte} (h : n ≤ b.toNat) : indexOf n b = none := dif_neg (Nat.not_lt.mpr h)

/-- A byte in a range names its number. -/
theorem indexOf_of_eq {n : Nat} {b : Byte} {k : Fin n} (h : b.toNat = k.val) : indexOf n b = some k := by
  have hlt : b.toNat < n := h ▸ k.isLt
  rw [indexOf, dif_pos hlt]
  exact congrArg some (Fin.ext h)

/-- The byte of a lane names the lane. -/
theorem laneOf_ofNat (l : LaneId) : laneOf (BitVec.ofNat 8 l.val) = some l := by
  refine indexOf_of_eq ?_
  rw [BitVec.toNat_ofNat, Nat.mod_eq_of_lt (by omega)]

/-! ### Requests read back from their bytes (Table 10-5) -/

/-- Four values of a vector are the vector. -/
theorem vector4_eta {α : Type} (v : Vector α 4) : #v[v[0], v[1], v[2], v[3]] = v := by
  apply Vector.ext
  intro i hi
  match i, hi with
  | 0, _ => rfl
  | 1, _ => rfl
  | 2, _ => rfl
  | 3, _ => rfl

/-- SET_NEEDLE_SET. -/
theorem parse_setNeedleSet (b : Byte) (m : NeedleSet) :
    parseRequest (Request.setNeedleSet b m).code (Request.setNeedleSet b m).args = .request (.setNeedleSet b m) := by
  simp [parseRequest, Request.code, Request.args, setBytes, parseSet]

/-- SET_BAND. -/
theorem parse_setBand (b : Byte) (c : Half) (d : Vector Half 4) :
    parseRequest (Request.setBand b c d).code (Request.setBand b c d).args = .request (.setBand b c d) := by
  simp [parseRequest, Request.code, Request.args, halves4, halfBytes, parseBand, vector4_eta]

/-- SET_COMPENSATION. -/
theorem parse_setCompensation (b : Byte) (sx : Vector Half 4) (sy : Half) :
    parseRequest (Request.setCompensation b sx sy).code (Request.setCompensation b sx sy).args
      = .request (.setCompensation b sx sy) := by
  simp [parseRequest, Request.code, Request.args, halves4, halfBytes, parseComp, vector4_eta]

/-! ### Values stored at a limit (R97, R173) -/

/-- Some lane's value is changed as it is stored, exactly where not every lane's value stands. -/
theorem any_ne_iff (v : Vector Half 4) (f : Half → Nat) :
    v.any (fun x => f x != x.toNat) = true ↔ ¬ ∀ l : LaneId, f v[l] = v[l].toNat := by
  simp only [Vector.any_eq_true, bne_iff_ne, Classical.not_forall]
  exact ⟨fun ⟨i, hi, h⟩ => ⟨⟨i, hi⟩, h⟩, fun ⟨l, h⟩ => ⟨l.val, l.isLt, h⟩⟩

/-- A Dmax as stored (R97). -/
theorem dmaxOf_eq (h : Half) : dmaxOf h = if h.toNat = 0 then 1 else if 255 < h.toNat then 255 else h.toNat := by
  simp only [dmaxOf, clampNat, Nat.lt_one_iff]

/-- The result of SET_BAND: CLAMPED where a value changed (R97). -/
theorem setBand_result (c : Half) (d : Vector Half 4) :
    (if (decide (4000 < c.toNat) || d.any (fun x => dmaxOf x != x.toNat)) = true then Result.clamped else Result.done)
      = if c.toNat ≤ 4000 ∧ ∀ l : LaneId, dmaxOf d[l] = d[l].toNat then .done else .clamped := by
  have hiff : (decide (4000 < c.toNat) || d.any (fun x => dmaxOf x != x.toNat)) = true
      ↔ ¬ (c.toNat ≤ 4000 ∧ ∀ l : LaneId, dmaxOf d[l] = d[l].toNat) := by
    rw [Bool.or_eq_true, decide_eq_true_iff, any_ne_iff, Classical.not_and_iff_not_or_not, Nat.not_le]
  simp only [hiff, ite_not]

/-- The result of SET_COMPENSATION: CLAMPED where a value changed (R173). -/
theorem setCompensation_result (sx : Vector Half 4) (sy : Half) :
    (if (sx.any (fun h => factorOf h != h.toNat) || factorOf sy != sy.toNat) = true then Result.clamped else Result.done)
      = if (∀ l : LaneId, factorOf sx[l] = sx[l].toNat) ∧ factorOf sy = sy.toNat then .done else .clamped := by
  have hiff : (sx.any (fun h => factorOf h != h.toNat) || factorOf sy != sy.toNat) = true
      ↔ ¬ ((∀ l : LaneId, factorOf sx[l] = sx[l].toNat) ∧ factorOf sy = sy.toNat) := by
    rw [Bool.or_eq_true, any_ne_iff, bne_iff_ne, Classical.not_and_iff_not_or_not]
  simp only [hiff, ite_not]

/-! ### The table writes at a part at rest -/

section Writes

variable {s : State} (tag b : Byte)

/-- SET_NEEDLE_SET of a set above 31 (R71). -/
theorem setNeedleSet_range (h : s.attentive) (m : NeedleSet) (hb : 32 ≤ b.toNat) :
    submit tag (.setNeedleSet b m) s = answered tag (.setNeedleSet b m) .range [] s :=
  submit_answered h (parse_setNeedleSet b m) (by simp [Request.args, setBytes]) h.2
    (congrArg finish (by simp only [doSetNeedleSet, indexOf_of_le hb]))

/-- SET_NEEDLE_SET of a set there is (R71). -/
theorem setNeedleSet_stores (h : s.attentive) (m : NeedleSet) {k : Fin 32} (hb : b.toNat = k.val) :
    submit tag (.setNeedleSet b m) s =
      answered tag (.setNeedleSet b m) .done (b :: setBytes m) { s with needleSets := s.needleSets.set k m } :=
  submit_answered h (parse_setNeedleSet b m) (by simp [Request.args, setBytes]) h.2
    (congrArg finish (by simp only [doSetNeedleSet, indexOf_of_eq hb]))

/-- SET_INTERLOCK of a record class above 3 (R91). -/
theorem setInterlock_range (h : s.attentive) (x y v : Byte) (hb : 4 ≤ x.toNat ∨ 4 ≤ y.toNat) :
    submit tag (.setInterlock x y v) s = answered tag (.setInterlock x y v) .range [] s := by
  refine submit_answered h rfl (by simp [Request.args]) h.2 (congrArg finish ?_)
  rcases hb with hx | hy
  · simp only [doSetInterlock, indexOf_of_le hx]
  · simp only [doSetInterlock, indexOf_of_le hy]
    cases indexOf 4 x <;> rfl

/-- SET_INTERLOCK of an entry there is (R91). -/
theorem setInterlock_stores (h : s.attentive) {x y : Byte} (v : Byte) {b c : Fin 4} (hx : x.toNat = b.val) (hy : y.toNat = c.val) :
    submit tag (.setInterlock x y v) s =
      answered tag (.setInterlock x y v) (if v.toNat ≤ 7 then .done else .clamped) ([x, y] ++ be1 (min v.toNat 7))
        { s with interlock := s.interlock.set (interlockIndex b c) (min v.toNat 7) } :=
  submit_answered h rfl (by simp [Request.args]) h.2
    (congrArg finish (by simp only [doSetInterlock, indexOf_of_eq hx, indexOf_of_eq hy]))

/-- SET_COMPENSATION of a material class above 15 (R173). -/
theorem setCompensation_range (h : s.attentive) (sx : Vector Half 4) (sy : Half) (hb : 16 ≤ b.toNat) :
    submit tag (.setCompensation b sx sy) s = answered tag (.setCompensation b sx sy) .range [] s :=
  submit_answered h (parse_setCompensation b sx sy) (by simp [Request.args, halves4, halfBytes]) h.2
    (congrArg finish (by simp only [doSetCompensation, indexOf_of_le hb]))

/-- SET_COMPENSATION of a material class there is (R173). -/
theorem setCompensation_stores (h : s.attentive) (sx : Vector Half 4) (sy : Half) {m : Fin 16} (hb : b.toNat = m.val) :
    submit tag (.setCompensation b sx sy) s =
      answered tag (.setCompensation b sx sy)
        (if (∀ l : LaneId, factorOf sx[l] = sx[l].toNat) ∧ factorOf sy = sy.toNat then .done else .clamped)
        (CompRow.bytes ⟨sx.map factorOf, factorOf sy⟩) { s with comp := s.comp.set m ⟨sx.map factorOf, factorOf sy⟩ } :=
  submit_answered h (parse_setCompensation b sx sy) (by simp [Request.args, halves4, halfBytes]) h.2
    (congrArg finish (by simp only [doSetCompensation, indexOf_of_eq hb, setCompensation_result]))

/-- SET_BAND of a row above 7 (R97). -/
theorem setBand_range (h : s.attentive) (c : Half) (d : Vector Half 4) (hb : 8 ≤ b.toNat) :
    submit tag (.setBand b c d) s = answered tag (.setBand b c d) .range [] s :=
  submit_answered h (parse_setBand b c d) (by simp [Request.args, halves4, halfBytes]) h.2
    (congrArg finish (by simp only [doSetBand, indexOf_of_le hb]))

/-- SET_BAND of a row there is (R97). -/
theorem setBand_stores (h : s.attentive) (c : Half) (d : Vector Half 4) {k : Fin 8} (hb : b.toNat = k.val) :
    submit tag (.setBand b c d) s =
      answered tag (.setBand b c d) (if c.toNat ≤ 4000 ∧ ∀ l : LaneId, dmaxOf d[l] = d[l].toNat then .done else .clamped)
        (b :: Band.bytes ⟨min c.toNat 4000, d.map dmaxOf⟩)
        { s with asm := { s.asm with bands := s.asm.bands.set k ⟨min c.toNat 4000, d.map dmaxOf⟩ } } :=
  submit_answered h (parse_setBand b c d) (by simp [Request.args, halves4, halfBytes]) h.2
    (congrArg finish (by simp only [doSetBand, indexOf_of_eq hb, setBand_result]))

end Writes

end Sys2Proof.Machine

open Sys2Proof Sys2Proof.Machine

/-- Settles O42, request by request. -/
theorem tableWritesStoreValues : Obligations.TableWritesStoreValues := by
  unfold Obligations.TableWritesStoreValues
  refine ⟨fun tag s h => ⟨fun b m => ⟨fun hb => ?_, fun k hb => ?_⟩, fun x y v => ⟨fun hb => ?_, fun b c hx hy => ?_⟩, ?_⟩, ?_⟩
  · exact congrArg Host.Outcome.next (setNeedleSet_range tag b h m hb)
  · exact congrArg Host.Outcome.next (setNeedleSet_stores tag b h m hb)
  · exact congrArg Host.Outcome.next (setInterlock_range tag h x y v hb)
  · exact congrArg Host.Outcome.next (setInterlock_stores tag h v hx hy)
  · intro b sx sy fit row
    have hfit : fit = factorOf := rfl
    clear_value fit
    subst hfit
    exact ⟨fun hb => congrArg Host.Outcome.next (setCompensation_range tag b h sx sy hb),
      fun m hb => congrArg Host.Outcome.next (setCompensation_stores tag b h sx sy hb)⟩
  · intro tag b c d s h fit row
    have hfit : fit = dmaxOf := funext fun x => (dmaxOf_eq x).symm
    clear_value fit
    subst hfit
    exact ⟨fun hb => congrArg Host.Outcome.next (setBand_range tag b h c d hb),
      fun k hb => congrArg Host.Outcome.next (setBand_stores tag b h c d hb)⟩

/-- Settles O22: each report answers at once and its data are the items as they stand. -/
theorem laneLinkAndIdentifyReports : Obligations.LaneLinkAndIdentifyReports := by
  unfold Obligations.LaneLinkAndIdentifyReports
  refine fun tag s h => ⟨fun l => ?_, ?_, ?_⟩
  · exact congrArg Host.Outcome.next (submit_answered h rfl (by simp [Request.args]) h.2
      (congrArg finish (by simp only [doGetLane, laneOf_ofNat]; rfl)))
  · exact congrArg Host.Outcome.next (submit_answered h rfl (by simp [Request.args]) h.2
      (congrArg finish (by unfold doGetLink outstandingBytes; rfl)))
  · exact congrArg Host.Outcome.next (submit_answered h rfl (by simp [Request.args]) h.2 rfl)

end

section
/-!
SUPPORT. The tables and counters that lie in ranges: which operations write them, and what keeps a property of them at every step.
-/

namespace Sys2Proof.Machine

/-! ### The figures -/

/-- The tables whose ranges `State.tablesSound` speaks of (R90, R93, R171, R173). -/
def State.tables (s : State) : ConfigTable × Vector CompRow 16 × Vector Nat 16 × Vector Band 8 :=
  (s.config, s.comp, s.interlock, s.asm.bands)

/-- The counters whose ranges `State.countersSound` speaks of (R40, R112, R118, R124, R138, R150). -/
def State.counters (s : State) : (Nat × Vector Nat 6 × Nat) × (Nat × Nat) × Nat × List HistoryEntry × List Repair :=
  ((s.link.wakeCount, s.link.miss, s.link.marker), (s.tally.steps, s.tally.mm), s.seq.dwell, s.asm.history, s.needles.log)

/-- The two states hold the same tables and the same counters: no figure has been written between them. -/
def State.sameFigures (s t : State) : Prop := t.tables = s.tables ∧ t.counters = s.counters

/-- The figures are the same where each of them is. -/
theorem sameFigures_iff (s t : State) : s.sameFigures t ↔
    (t.config = s.config ∧ t.comp = s.comp ∧ t.interlock = s.interlock ∧ t.asm.bands = s.asm.bands)
      ∧ (t.link.wakeCount = s.link.wakeCount ∧ t.link.miss = s.link.miss ∧ t.link.marker = s.link.marker)
      ∧ (t.tally.steps = s.tally.steps ∧ t.tally.mm = s.tally.mm)
      ∧ t.seq.dwell = s.seq.dwell ∧ t.asm.history = s.asm.history ∧ t.needles.log = s.needles.log := by
  simp only [State.sameFigures, State.tables, State.counters, Prod.mk.injEq]

/-- Figures not written by either of two operations are not written by both. -/
theorem State.sameFigures.trans {s t u : State} (h : s.sameFigures t) (h' : t.sameFigures u) : s.sameFigures u :=
  ⟨h'.1.trans h.1, h'.2.trans h.2⟩

/-- The ranges of the tables are a matter of the tables alone. -/
theorem tablesSound_congr {s t : State} (h : t.tables = s.tables) (hs : s.tablesSound) : t.tablesSound := by
  simp only [State.tables, Prod.mk.injEq] at h
  obtain ⟨hconfig, hcomp, hinterlock, hbands⟩ := h
  rw [State.tablesSound, hconfig, hcomp, hinterlock, hbands]
  exact hs

/-- The ranges of the counters are a matter of the counters alone. -/
theorem countersSound_congr {s t : State} (h : t.counters = s.counters) (hs : s.countersSound) : t.countersSound := by
  simp only [State.counters, Prod.mk.injEq] at h
  obtain ⟨⟨hwake, hmiss, hmarker⟩, ⟨hsteps, hmm⟩, hdwell, hhistory, hlog⟩ := h
  rw [State.countersSound, hwake, hmiss, hmarker, hsteps, hmm, hdwell, hhistory, hlog]
  exact hs

/-! ### Operations of the Sequencer and the Pattern Store write no figure -/

/-- A notice to the lanes writes no figure (R59). -/
theorem notifyLanes_sameFigures (n : Notice) (s : State) : s.sameFigures (notifyLanes n s) :=
  ⟨foldl_keeps State.tables _ (fun s l => by split <;> rfl) _ _, foldl_keeps State.counters _ (fun s l => by split <;> rfl) _ _⟩

/-- The closing of a panel counts the panel alone (R37, R152). -/
theorem closePanel_sameFigures (ctx : Context) (s : State) : s.sameFigures (closePanel ctx s) := by
  simp [sameFigures_iff, closePanel]

/-- What follows a completion writes no figure (R37). -/
theorem afterCompletion_sameFigures (d : Descriptor) (s : State) : s.sameFigures (afterCompletion d s) := by
  unfold afterCompletion
  (repeat' split) <;> simp [sameFigures_iff, pauseAtCompletion]

/-- The end of a phase writes no figure (R34). -/
theorem endPhase_sameFigures (ctx : Context) (p : PanelPhase) (s : State) : s.sameFigures (endPhase ctx p s) := by
  unfold endPhase
  split
  next q _ =>
    exact (notifyLanes_sameFigures (.phase q) s).trans (by simp [sameFigures_iff])
  next => exact (closePanel_sameFigures ctx s).trans (afterCompletion_sameFigures _ _)

/-- A consumption leaves the dwell run (R35, R36). -/
theorem countConsumption_dwell (d : Descriptor) (p : PanelPhase) (r : SeqReport) (q : Sequencer) :
    (countConsumption d p r q).1.dwell = q.dwell := by
  unfold countConsumption
  (repeat' split) <;> rfl

/-- A consumption of the Sequencer writes no figure (R34). -/
theorem consumeSequencer_sameFigures (ctx : Context) (p : PanelPhase) (r : SeqReport) (s : State) :
    s.sameFigures (consumeSequencer ctx p r s) := by
  have hcount : s.sameFigures { s with seq := (countConsumption ctx.desc p r s.seq).1 } := by
    simp [sameFigures_iff, countConsumption_dwell]
  unfold consumeSequencer
  simp only
  split
  · exact hcount.trans (endPhase_sameFigures _ _ _)
  · exact hcount.trans (notifyLanes_sameFigures _ _)

/-- The Sequencer's consumption report writes no figure (R34). -/
theorem takeSequencerReport_sameFigures (s : State) : s.sameFigures (takeSequencerReport s) := by
  unfold takeSequencerReport
  split
  next => exact ⟨rfl, rfl⟩
  next =>
    simp only
    split
    · exact State.sameFigures.trans ⟨rfl, rfl⟩ (consumeSequencer_sameFigures _ _ _ _)
    · exact ⟨rfl, rfl⟩

/-- The completion of a management access writes no figure (R13, R17). -/
theorem completeMgmt_sameFigures (s : State) : s.sameFigures (completeMgmt s) := by
  unfold completeMgmt stepAppend stepRead finishAppend requestMgmt
  simp only
  (repeat' split) <;> simp [sameFigures_iff]

/-! ### Requests that write no figure -/

/-- The requests that may write a figure: the writes of the tables, and those that reset or move a counter. -/
def Request.writesFigures : Request → Bool
  | .setInterlock _ _ _ | .setBand _ _ _ | .setConfig _ _ _ | .setCompensation _ _ _ => true
  | .setSlotMap _ _ | .linkStart | .headQuery _ _ | .retireRepairs _ => true
  | .tallyControl _ | .readTally | .setMode _ | .resetQueue | .lineReset => true
  | _ => false

/-- APPEND_SEGMENTS writes no figure. -/
theorem doAppendSegments_sameFigures (n : Byte) (first : Half) (records : List SegmentWire) (s : State) :
    s.sameFigures (doAppendSegments n first records s).1 := by
  unfold doAppendSegments requestMgmt
  (repeat' split) <;> simp [sameFigures_iff]

/-- READ_SEGMENTS writes no figure. -/
theorem doReadSegments_sameFigures (n : Byte) (first : Half) (number : Byte) (s : State) :
    s.sameFigures (doReadSegments n first number s).1 := by
  unfold doReadSegments requestMgmt
  simp only
  (repeat' split) <;> simp [sameFigures_iff]

/-- LINK_STOP writes no figure. -/
theorem doLinkStop_sameFigures (s : State) : s.sameFigures (doLinkStop s).1 := by
  unfold doLinkStop HeadLink.stop
  (repeat' split) <;> simp [sameFigures_iff]

/-- SET_PRESENCE leaves the repair log. -/
theorem doSetPresence_log (lane : Byte) (needles : NeedleSet) (s : State) :
    (doSetPresence lane needles s).1.needles.log = s.needles.log := by
  unfold doSetPresence
  (repeat' split) <;> rfl

/-- A release leaves the repair log (R143). -/
theorem release_log (t : NeedleTable) (l : LaneId) (n : NeedleId) : (t.release l n).log = t.log := by
  unfold NeedleTable.release
  split <;> rfl

/-- RESTORE_NEEDLE leaves the repair log. -/
theorem doRestoreNeedle_log (lane needle : Byte) (s : State) : (doRestoreNeedle lane needle s).1.needles.log = s.needles.log := by
  unfold doRestoreNeedle
  simp only
  (repeat' split) <;> rfl

/-- LOCK_NEEDLE leaves the repair log. -/
theorem doLockNeedle_log (lane needle : Byte) (s : State) : (doLockNeedle lane needle s).1.needles.log = s.needles.log := by
  unfold doLockNeedle
  simp only
  (repeat' split) <;> simp [release_log, NeedleTable.setEntry]

/-- A request that ends at once writes the figures its effects write. -/
theorem finish_sameFigures {s : State} {r : State × Answer} (h : s.sameFigures r.1) : s.sameFigures (finish r) :=
  h.trans (by simp [sameFigures_iff])

/-- A request that may hold the head writes the figures its effects write. -/
theorem finishOrHold_sameFigures {s : State} {r : State × Option Answer} (h : s.sameFigures r.1) : s.sameFigures (finishOrHold r) :=
  h.trans (by simp [sameFigures_iff])

/-- Every request but those of `Request.writesFigures` leaves the figures. -/
theorem execHead_sameFigures {r : Request} (h : r.writesFigures = false) (s : State) : s.sameFigures (execHead r s) := by
  cases r
  case setInterlock | setBand | setConfig | setCompensation | setSlotMap | linkStart | headQuery | retireRepairs | tallyControl
    | readTally | setMode | resetQueue | lineReset => cases h
  case getQueue | getInterlock | getBand | getLink | readHistory | readFlags | clearFlags | setNotice | getConfig | identify =>
    exact finish_sameFigures ⟨rfl, rfl⟩
  case appendSegments => exact finishOrHold_sameFigures (doAppendSegments_sameFigures _ _ _ s)
  case readSegments => exact finishOrHold_sameFigures (doReadSegments_sameFigures _ _ _ s)
  case linkStop => exact finish_sameFigures (doLinkStop_sameFigures s)
  case setPresence => exact finish_sameFigures (by simp [sameFigures_iff, doSetPresence_log])
  case restoreNeedle => exact finish_sameFigures (by simp [sameFigures_iff, doRestoreNeedle_log])
  case lockNeedle => exact finish_sameFigures (by simp [sameFigures_iff, doLockNeedle_log])
  all_goals exact finish_sameFigures (by simp [sameFigures_iff])

end Sys2Proof.Machine
end

section
/-!
SUPPORT. A property of the figures that each operation which writes them keeps is kept by every step: the induction over the bytes, the
reports, the requests and the stages of a send point, once for all such properties.
-/

namespace Sys2Proof.Machine

/-! ### The wake at a send point (R104, R120) -/

/-- Once the link has been evaluated, a wake that goes on has not run out (R120). -/
theorem evalLink_waking {s : State} (h : (evalLink s).link.state = .waking) : (evalLink s).link.wakeCount < 32 := by
  have hlost : ∀ t : State, (loseModule t).link.state = .failed := by
    intro t
    unfold loseModule
    split <;> simp
  revert h
  unfold evalLink
  split
  next hs =>
    simp only
    split
    · simp [HeadLink.countMisses, hs]
    · simp [hlost]
  next =>
    split
    · simp [failWake]
    next hw => exact fun _ => Nat.not_le.mp hw
  next hs => exact fun h => absurd h hs

/-- The frame is WAKE only while the link is WAKING (R104). -/
theorem waking_of_decideKind {run : Bool} {s : State} (h : s.decideKind run = some .wake) : s.link.state = .waking := by
  by_cases hw : s.link.state = .waking
  · exact hw
  · unfold State.decideKind at h
    rw [if_neg hw] at h
    (repeat' split at h) <;> cases h

/-! ### The property -/

/-- A property of the figures alone that holds at reset and that every operation which writes a figure keeps: a feed report, a request, a
module return, the evaluation of the link, and a frame, which is a WAKE frame only while the wake has not run out (R120). -/
structure KeptFigures (P : State → Prop) : Prop where
  figures : ∀ {s t : State}, P s → s.sameFigures t → P t
  reset : P State.reset
  feed : ∀ (f : Nat) {s : State}, P s → P (tallyFeed f s)
  writes : ∀ {r : Request} {s : State}, r.writesFigures = true → P s → P (execHead r s)
  returned : ∀ (r : ModuleReturn) {s : State}, P s → P (takeReturn r s)
  evaluated : ∀ {s : State}, P s → P (evalLink s)
  sent : ∀ (seq : Half) {k : FrameKind} {s : State}, (k = .wake → s.link.wakeCount < 32) → P s → P (sendFrame seq k s)

namespace KeptFigures

variable {P : State → Prop} (hP : KeptFigures P) {s : State}

include hP

/-! ### Reports -/

/-- Every feed report in flight is taken. -/
theorem takeFeeds (h : P s) : P (takeFeeds s) :=
  List.foldlRecOn _ _ (hP.figures h ⟨rfl, rfl⟩) fun _ h f _ => hP.feed f h

/-- A report in flight is taken. -/
theorem takeReport (r : Report) (h : P s) : P (takeReport r s) := by
  cases r with
  | lane l => exact hP.figures h (by simp [sameFigures_iff, Machine.takeReport])
  | sequencer => exact hP.figures h (takeSequencerReport_sameFigures s)
  | notice l => exact hP.figures h (by simp [sameFigures_iff, Machine.takeReport])
  | feed =>
    change P (takeFeedReport s)
    unfold takeFeedReport
    split
    · exact h
    · exact hP.feed _ (hP.figures h ⟨rfl, rfl⟩)

/-- Reports are taken one after another. -/
theorem takeReports (order : List Report) (h : P s) : P (takeReports order s) :=
  List.foldlRecOn _ _ h fun _ h r _ => hP.takeReport r h

/-! ### Requests -/

/-- The request at the head executes. -/
theorem execHead (r : Request) (h : P s) : P (execHead r s) := by
  cases hr : r.writesFigures with
  | true => exact hP.writes hr h
  | false => exact hP.figures h (execHead_sameFigures hr s)

/-- The requests that wait execute. -/
theorem drainQueue (h : P s) : P (drainQueue s) := by
  unfold Machine.drainQueue
  induction s.mgmt.queue.length generalizing s with
  | zero => exact h
  | succ n ih =>
    unfold runQueue
    split
    · exact ih (hP.execHead _ h)
    · exact h

/-- The mode changes. -/
theorem changeMode (m : Mode) (h : P s) : P (changeMode m s) :=
  hP.figures (hP.takeFeeds h) ⟨rfl, rfl⟩

/-- A MGMT frame is dealt with on arrival. -/
theorem takeMgmt (tag code : Byte) (args : List Byte) (h : P s) : P (takeMgmt tag code args s) := by
  have hreply : ∀ {t : State} (a : Answer), P t → P (reply tag code a t) := fun a ht => hP.figures ht ⟨rfl, rfl⟩
  unfold Machine.takeMgmt
  split
  next => -- ECHO
    split
    · unfold setModeInEcho
      split
      · exact hreply _ h
      · exact hreply _ (hP.changeMode _ h)
    · exact h
  next =>
    unfold takeRequest
    split
    · exact hreply _ h
    · exact hreply _ h
    · split
      · exact hreply _ h
      · exact hP.drainQueue (hP.figures h ⟨rfl, rfl⟩)

/-! ### The send point -/

/-- The band and the link are evaluated, after the reports still in flight. -/
theorem openSendPoint (speed : Nat) (h : P s) : P (openSendPoint speed s) := by
  have hsettled : P (settleReports s) := hP.takeFeeds (hP.takeReports _ h)
  exact hP.evaluated (hP.figures hsettled (by simp [sameFigures_iff]))

/-- The frame of the kind decided is sent. -/
theorem sendKind (seq : Half) (run : Bool) (speed : Nat) (h : P s) :
    P (sendKind seq ((Machine.openSendPoint speed s).decideKind run) (Machine.openSendPoint speed s)) := by
  unfold Machine.sendKind
  split
  next k hk =>
    refine hP.sent seq (fun hwake => ?_) (hP.openSendPoint speed h)
    exact evalLink_waking (waking_of_decideKind (hwake ▸ hk))
  next => exact hP.openSendPoint speed h

/-- The synthetic returns of LOOPBACK are taken. -/
theorem syntheticReturns (seq : Half) (query : Option QueryPart) (h : P s) : P (syntheticReturns seq query s) := by
  unfold Machine.syntheticReturns
  split
  · exact List.foldlRecOn _ _ h fun _ h k _ => hP.returned _ h
  · exact h

/-- The STATUS frame is produced. -/
theorem sendStatus (seq : Half) (kind : Option FrameKind) (h : P s) : P (sendStatus seq kind s) :=
  hP.figures h (by simp [sameFigures_iff])

/-- A whole send point. -/
theorem sendPoint (seq : Half) (info : CycleInfo) (order : List Report) (h : P s) : P (sendPoint seq info order s) :=
  hP.drainQueue (hP.sendStatus _ _ (hP.syntheticReturns _ _ (hP.takeReports _ (hP.sendKind seq info.run info.speed h))))

/-! ### Bytes -/

/-- A CYCLE frame is judged and taken. -/
theorem takeCycle (seq : Half) (run : Byte) (speed : Half) (order : List Report) (h : P s) : P (takeCycle seq run speed order s) := by
  unfold Machine.takeCycle acceptCycle
  split
  · exact hP.sendPoint _ _ _ (hP.figures h ⟨rfl, rfl⟩)
  · exact hP.sendPoint _ _ _ (hP.figures h ⟨rfl, rfl⟩)
  · exact hP.figures h ⟨rfl, rfl⟩

/-- A whole downward frame is checked and taken. -/
theorem takeFrame (order : List Report) (g : List Byte) (h : P s) : P (takeFrame order g s) := by
  have hecho : P (echoFrame g s) := hP.figures h (by simp [sameFigures_iff])
  unfold Machine.takeFrame
  split
  · split
    · exact hP.takeCycle _ _ _ _ hecho
    · exact hP.takeMgmt _ _ _ hecho
    · exact hP.figures hecho ⟨rfl, rfl⟩
  · exact hP.figures h ⟨rfl, rfl⟩

/-- Bytes arrive on the stitch line. -/
theorem receive (order : List Report) (bytes : List Byte) (h : P s) : P (receive order bytes s) := by
  refine List.foldlRecOn _ _ h fun t h b _ => ?_
  have hset : ∀ r, P (setReceiver r t) := fun r => hP.figures h ⟨rfl, rfl⟩
  unfold receiveByte
  split
  · exact hset _
  · exact hP.takeFrame _ _ (hset _)

/-- Bytes arrive on the head link. -/
theorem receiveHead (bytes : List Byte) (h : P s) : P (receiveHead bytes s) := by
  unfold Machine.receiveHead
  split
  · exact h
  · refine List.foldlRecOn _ _ h fun t h b _ => ?_
    have hset : ∀ r, P (setHeadReceiver r t) := fun r => hP.figures h ⟨rfl, rfl⟩
    unfold receiveHeadByte
    split
    · exact hset _
    · unfold takeHeadFrame
      split
      · exact hP.drainQueue (hP.returned _ (hset _))
      · exact hset _

/-! ### Commands and steps -/

/-- A command leaves the property where its next state has it. -/
theorem exec_next {c : Instr} {t : State} (h : P s) (hx : exec c s = .next t) : P t := by
  have line : ∀ order bytes, P (Machine.receive order bytes s) := fun order bytes => hP.receive order bytes h
  have choice : ∀ (b : Bool) {u : State}, P u → P (if b then u else s) := by
    intro b u hu
    split
    · exact hu
    · exact h
  cases c <;> obtain rfl := Host.Outcome.next.inj hx
  case por => exact hP.figures hP.reset ⟨rfl, rfl⟩
  case returnFrameSent => exact hP.figures h ⟨rfl, rfl⟩
  case wakeLimit | moduleLoss | queryTimeout | dwellLimit => exact choice _ (line _ _)
  case moduleReturn => exact hP.receiveHead _ h
  case laneFetchCompletion => exact hP.figures h (by simp [sameFigures_iff])
  case managementAccessCompletion => exact hP.drainQueue (hP.figures h (completeMgmt_sameFigures s))
  case laneConsumptionReport l => exact hP.takeReport (.lane l) h
  case phaseNotice l => exact hP.takeReport (.notice l) h
  case sequencerConsumption => exact hP.takeReport .sequencer h
  case phaseEnd => exact choice _ (hP.takeReport .sequencer h)
  case feedReport => exact hP.takeReport .feed h
  all_goals exact line _ _

/-- A step keeps the property. -/
theorem step_next {t : State} (h : P s) (hx : step s = .next t) : P t := by
  unfold step at hx
  split at hx
  · obtain rfl := Host.Outcome.next.inj hx
    exact h
  · refine hP.exec_next ?_ hx
    exact hP.figures h ⟨rfl, rfl⟩

end KeptFigures

end Sys2Proof.Machine
end

section
/-!
SUPPORT. The ranges of the tables (R90, R93, R171, R173): what writes a table stores a value in its range.
-/

namespace Sys2Proof.Machine

/-! ### Writes of one table -/

/-- A value brought into a range lies in it. -/
theorem clampNat_mem {lo hi : Nat} (h : lo ≤ hi) (n : Nat) : lo ≤ clampNat lo hi n ∧ clampNat lo hi n ≤ hi := by
  unfold clampNat
  (repeat' split) <;> omega

/-- The config table lies in the ranges of Table 9-5 (R171). -/
def ConfigTable.inRange (c : ConfigTable) : Prop :=
  1 ≤ c.fgap ∧ c.fgap ≤ c.fmax ∧ c.fmax ≤ 400 ∧ c.tIn ≤ 7 ∧ c.tOut ≤ 7 ∧ c.dwellLimit ≤ 255

/-- The factors of a compensation row lie in their range (R173). -/
def CompRow.inRange (r : CompRow) : Prop :=
  (∀ l : LaneId, 3686 ≤ r.sx[l] ∧ r.sx[l] ≤ 4915) ∧ 3686 ≤ r.sy ∧ r.sy ≤ 4915

/-- The ceiling and the Dmax values of a speed band row lie in their ranges (R93). -/
def Band.inRange (b : Band) : Prop := b.ceiling ≤ 4000 ∧ ∀ l : LaneId, 1 ≤ b.dmax[l] ∧ b.dmax[l] ≤ 255

/-- The tables are in range where each is. -/
theorem tablesSound_iff (s : State) : s.tablesSound ↔
    s.config.inRange ∧ (∀ m : Fin 16, s.comp[m].inRange) ∧ (∀ k : Fin 16, s.interlock[k] ≤ 7)
      ∧ ∀ k : Fin 8, s.asm.bands[k].inRange := Iff.rfl

/-- What holds of every entry of a vector holds once an entry with the property is stored. -/
theorem forall_set {α : Type} {n : Nat} {p : α → Prop} {v : Vector α n} {x : α} (hv : ∀ k : Fin n, p v[k]) (hx : p x) (i : Fin n) :
    ∀ k : Fin n, p (v.set i x)[k] := by
  intro k
  simp only [Fin.getElem_fin, Vector.getElem_set]
  split
  · exact hx
  · exact hv k

/-- SET_INTERLOCK stores at most 7 (R91). -/
theorem doSetInterlock_tablesSound {s : State} (h : s.tablesSound) (before built rests : Byte) :
    (doSetInterlock before built rests s).1.tablesSound := by
  obtain ⟨hconfig, hcomp, hinterlock, hbands⟩ := h
  unfold doSetInterlock
  split
  · exact ⟨hconfig, hcomp, forall_set (p := (· ≤ 7)) hinterlock (Nat.min_le_right _ _) _, hbands⟩
  · exact ⟨hconfig, hcomp, hinterlock, hbands⟩

/-- SET_BAND stores a row in its ranges (R97). -/
theorem doSetBand_tablesSound {s : State} (h : s.tablesSound) (row : Byte) (ceiling : Half) (dmax : Vector Half 4) :
    (doSetBand row ceiling dmax s).1.tablesSound := by
  have hrow : Band.inRange ⟨min ceiling.toNat 4000, dmax.map dmaxOf⟩ := by
    refine ⟨Nat.min_le_right _ _, fun l => ?_⟩
    simpa [dmaxOf] using clampNat_mem (by decide : 1 ≤ 255) dmax[l].toNat
  obtain ⟨hconfig, hcomp, hinterlock, hbands⟩ := h
  unfold doSetBand
  split
  · exact ⟨hconfig, hcomp, hinterlock, hbands⟩
  · exact ⟨hconfig, hcomp, hinterlock, forall_set (p := Band.inRange) hbands hrow _⟩

/-- SET_COMPENSATION stores a row in its ranges (R173). -/
theorem doSetCompensation_tablesSound {s : State} (h : s.tablesSound) (material : Byte) (sx : Vector Half 4) (sy : Half) :
    (doSetCompensation material sx sy s).1.tablesSound := by
  have hfactor : ∀ x : Half, 3686 ≤ factorOf x ∧ factorOf x ≤ 4915 := fun x => clampNat_mem (by decide) x.toNat
  have hrow : CompRow.inRange ⟨sx.map factorOf, factorOf sy⟩ := by
    refine ⟨fun l => ?_, hfactor sy⟩
    simpa using hfactor sx[l]
  obtain ⟨hconfig, hcomp, hinterlock, hbands⟩ := h
  unfold doSetCompensation
  split
  · exact ⟨hconfig, hcomp, hinterlock, hbands⟩
  · exact ⟨hconfig, forall_set (p := CompRow.inRange) hcomp hrow _, hinterlock, hbands⟩

/-- SET_CONFIG stores a config table in its ranges, Fgap between 1 and Fmax whichever of the two it writes (R171). -/
theorem doSetConfig_tablesSound {s : State} (h : s.tablesSound) (item lane : Byte) (value : Half) :
    (doSetConfig item lane value s).1.tablesSound := by
  obtain ⟨hconfig, htables⟩ := h
  have hstore : ∀ {c : ConfigTable} (b : Bool), c.inRange → (storeConfig c b s).1.tablesSound := fun _ hc => ⟨hc, htables⟩
  obtain ⟨hlow, hgap, hmax, hin, hout, hdwell⟩ := hconfig
  have hsame : s.tablesSound := ⟨⟨hlow, hgap, hmax, hin, hout, hdwell⟩, htables⟩
  unfold doSetConfig
  split
  · -- FMAX
    unfold setFmax
    split
    · exact hsame
    · obtain ⟨hv, hv'⟩ := clampNat_mem (by decide : 1 ≤ 400) value.toNat
      exact hstore _ ⟨Nat.le_min.mpr ⟨hlow, hv⟩, Nat.min_le_right _ _, hv', hin, hout, hdwell⟩
  · -- FGAP
    obtain ⟨hv, hv'⟩ := clampNat_mem (Nat.le_trans hlow hgap) value.toNat
    exact hstore _ ⟨hv, hv', hmax, hin, hout, hdwell⟩
  · exact hstore _ ⟨hlow, hgap, hmax, Nat.min_le_right _ _, hout, hdwell⟩
  · exact hstore _ ⟨hlow, hgap, hmax, hin, Nat.min_le_right _ _, hdwell⟩
  · exact hstore _ ⟨hlow, hgap, hmax, hin, hout, Nat.min_le_right _ _⟩
  · -- BREAK_ACTION
    unfold setBreakAction
    split
    · exact hstore _ ⟨hlow, hgap, hmax, hin, hout, hdwell⟩
    · exact hsame
  · exact hsame

/-! ### Every step -/

/-- The tables are the same where each of them is. -/
theorem tables_eq_iff (s t : State) : t.tables = s.tables ↔
    t.config = s.config ∧ t.comp = s.comp ∧ t.interlock = s.interlock ∧ t.asm.bands = s.asm.bands := by
  simp only [State.tables, Prod.mk.injEq]

/-- A request that may write a figure leaves the tables in range; all but the four writes of a table leave them as they are. -/
theorem execHead_tablesSound {r : Request} (hr : r.writesFigures = true) {s : State} (h : s.tablesSound) :
    (execHead r s).tablesSound := by
  have hfinish : ∀ {q : State × Answer}, q.1.tablesSound → (finish q).tablesSound :=
    fun hq => tablesSound_congr (by simp [tables_eq_iff]) hq
  cases r
  case setInterlock => exact hfinish (doSetInterlock_tablesSound h _ _ _)
  case setBand => exact hfinish (doSetBand_tablesSound h _ _ _)
  case setConfig => exact hfinish (doSetConfig_tablesSound h _ _ _)
  case setCompensation => exact hfinish (doSetCompensation_tablesSound h _ _ _)
  case setMode =>
    refine tablesSound_congr ?_ h
    simp only [execHead, execSetModeHead]
    (repeat' split) <;> simp [tables_eq_iff]
  case headQuery => exact tablesSound_congr (by simp [tables_eq_iff, execHead]) h
  case lineReset => exact hfinish (tablesSound_congr (by simp [tables_eq_iff, doLineReset]) h)
  case setSlotMap | linkStart | retireRepairs | tallyControl | readTally | resetQueue =>
    exact hfinish (tablesSound_congr (by simp [tables_eq_iff]) h)
  all_goals cases hr

/-- A frame writes no table. -/
theorem sendFrame_tables (seq : Half) (k : FrameKind) (s : State) : (sendFrame seq k s).tables = s.tables := by
  simp only [sendFrame]
  split <;> simp [tables_eq_iff, driveFrame, moveBars]

/-- The ranges of the tables are kept by whatever writes a figure. -/
theorem keptFigures_tablesSound : KeptFigures State.tablesSound where
  figures h hst := tablesSound_congr hst.1 h
  reset := by unfold State.tablesSound; decide
  feed f _ h := tablesSound_congr (by simp [tables_eq_iff]) h
  writes hr h := execHead_tablesSound hr h
  returned r _ h := tablesSound_congr (by simp [tables_eq_iff]) h
  evaluated h := tablesSound_congr (by simp [tables_eq_iff]) h
  sent seq _ _ _ h := tablesSound_congr (sendFrame_tables seq _ _) h

end Sys2Proof.Machine
end

section
/-!
SUPPORT. The ranges of the counters (R40, R112, R118, R124, R138, R150): what moves a counter leaves it in its range.
-/

namespace Sys2Proof.Machine

/-! ### The counters, block by block -/

/-- The wake count, the miss counts and the query marker lie in their ranges (R118, R124). -/
def HeadLink.inRange (h : HeadLink) : Prop :=
  h.wakeCount ≤ 32 ∧ (∀ k : SlotId, h.miss[k] ≤ 3) ∧ 1 ≤ h.marker ∧ h.marker ≤ 15

/-- The fed-length counts lie in their ranges (R150). -/
def Tally.inRange (t : Tally) : Prop := t.steps < 20 ∧ t.mm < 1000

/-- The counters are in range where those of each block are. -/
theorem countersSound_iff (s : State) : s.countersSound ↔
    s.link.inRange ∧ s.tally.inRange ∧ s.seq.dwell ≤ 255 ∧ s.asm.history.length ≤ 8 ∧ s.needles.log.length ≤ 64 := by
  simp only [State.countersSound, HeadLink.inRange, Tally.inRange, and_assoc]

/-- The counters are the same where each of them is. -/
theorem counters_eq_iff (s t : State) : t.counters = s.counters ↔
    (t.link.wakeCount = s.link.wakeCount ∧ t.link.miss = s.link.miss ∧ t.link.marker = s.link.marker)
      ∧ (t.tally.steps = s.tally.steps ∧ t.tally.mm = s.tally.mm)
      ∧ t.seq.dwell = s.seq.dwell ∧ t.asm.history = s.asm.history ∧ t.needles.log = s.needles.log := by
  simp only [State.counters, Prod.mk.injEq]

/-- A head link with its counters in range, but for the miss counts all 0 (R115, R119, R176). -/
theorem inRange_of_miss_zero {h h' : HeadLink} (hh : h.inRange) (hw : h'.wakeCount ≤ 32) (hm : h'.miss = Vector.replicate 6 0)
    (hk : h'.marker = h.marker) : h'.inRange := by
  obtain ⟨-, -, hmarker⟩ := hh
  refine ⟨hw, fun k => ?_, hk ▸ hmarker⟩
  simp [hm]

/-! ### The fed-length cascade -/

/-- The cascade brings its counts under 20 and 1000 (R150). -/
theorem addFeed_inRange (t : Tally) (f : Nat) : (t.addFeed f).inRange :=
  ⟨Nat.mod_lt _ (by decide), Nat.mod_lt _ (by decide)⟩

/-- A feed report leaves the counters in range (R150). -/
theorem tallyFeed_countersSound (f : Nat) {s : State} (h : s.countersSound) : (tallyFeed f s).countersSound := by
  obtain ⟨hlink, -, hdwell, hhistory, hlog⟩ := (countersSound_iff s).mp h
  unfold tallyFeed
  split
  · have hadded : State.countersSound { s with tally := s.tally.addFeed f } :=
      (countersSound_iff _).mpr ⟨hlink, addFeed_inRange _ _, hdwell, hhistory, hlog⟩
    exact countersSound_congr (by simp [counters_eq_iff]) hadded
  · exact h

/-- Every feed report in flight leaves the counters in range (R150). -/
theorem takeFeeds_countersSound {s : State} (h : s.countersSound) : (takeFeeds s).countersSound :=
  List.foldlRecOn _ _ (countersSound_congr rfl h) fun _ h f _ => tallyFeed_countersSound f h

/-! ### The head link -/

/-- The next query marker is one of 1 to 15 (R124). -/
theorem nextMarker_mem (m : Nat) : 1 ≤ nextMarker m ∧ nextMarker m ≤ 15 := by
  unfold nextMarker
  split <;> omega

/-- A return puts a miss count to 0 and leaves the others (R122). -/
theorem noteReturn_inRange (r : ModuleReturn) {h : HeadLink} (hh : h.inRange) : (h.noteReturn r).inRange := by
  obtain ⟨hwake, hmiss, hmarker⟩ := hh
  exact ⟨hwake, forall_set (p := (· ≤ 3)) hmiss (Nat.zero_le 3) _, hmarker⟩

/-- A return of a waking module leaves the counters, or puts every miss count to 0 (R120). -/
theorem wakeReturn_inRange (r : ModuleReturn) {h : HeadLink} (hh : h.inRange) : (h.wakeReturn r).inRange := by
  unfold HeadLink.wakeReturn
  split
  · simp only
    split
    · exact inRange_of_miss_zero hh hh.1 rfl rfl
    · exact hh
  · exact hh

/-- A miss count stops at 3 (R123). -/
theorem countMisses_inRange {h : HeadLink} (hh : h.inRange) : h.countMisses.inRange := by
  obtain ⟨hwake, hmiss, hmarker⟩ := hh
  refine ⟨hwake, fun k => ?_, hmarker⟩
  have hafter : h.missAfter k ≤ 3 := by
    unfold HeadLink.missAfter
    split
    · exact Nat.min_le_right _ _
    · exact hmiss k
  simpa [HeadLink.countMisses] using hafter

/-- The evaluation of the link leaves the counters in range (R120, R123). -/
theorem evalLink_countersSound {s : State} (h : s.countersSound) : (evalLink s).countersSound := by
  obtain ⟨hlink, hrest⟩ := (countersSound_iff s).mp h
  unfold evalLink
  split
  next =>
    have hcounted : State.countersSound { s with link := s.link.countMisses } :=
      (countersSound_iff _).mpr ⟨countMisses_inRange hlink, hrest⟩
    simp only
    split
    · exact hcounted
    · exact countersSound_congr (by simp [counters_eq_iff]) hcounted
  next =>
    split
    · exact countersSound_congr (by simp [counters_eq_iff]) h
    · exact h
  next => exact h

/-! ### The repair log -/

/-- The repair log takes a record only while it holds fewer than 64 (R134, R136). -/
theorem logRepair_log_le (r : Repair) {s : State} (h : s.needles.log.length ≤ 64) : (logRepair r s).needles.log.length ≤ 64 := by
  unfold logRepair
  split
  next hroom =>
    have hone : (s.needles.log ++ [r]).length ≤ 64 := by
      rw [List.length_append]
      exact hroom
    simp only
    split
    · exact hone
    · exact hone
  next => exact h

/-- One needle of a thread-absent report leaves the repair log in range (R133 to R137). -/
theorem reportNeedle_log_le (l : LaneId) (seq : Half) (pos : Option Position) (n : NeedleId) {s : State}
    (h : s.needles.log.length ≤ 64) : (reportNeedle l seq pos n s).needles.log.length ≤ 64 := by
  unfold reportNeedle
  simp only
  split
  · exact h
  · exact logRepair_log_le _ (by simpa [release_log, NeedleTable.setEntry] using h)
  all_goals simpa [release_log] using h

/-- A thread-absent report leaves the repair log in range (R132). -/
theorem takeThreadReport_log_le (l : LaneId) (missing : NeedleSet) (seq : Half) {s : State} (h : s.needles.log.length ≤ 64) :
    (takeThreadReport l missing seq s).needles.log.length ≤ 64 := by
  refine List.foldlRecOn (motive := fun t : State => t.needles.log.length ≤ 64) _ _ h fun t ht n _ => ?_
  split
  · exact reportNeedle_log_le _ _ _ _ ht
  · exact ht

/-- A thread-absent report leaves the dwell run. -/
theorem takeThreadReport_dwell (l : LaneId) (missing : NeedleSet) (seq : Half) (s : State) :
    (takeThreadReport l missing seq s).seq.dwell = s.seq.dwell :=
  foldl_keeps (·.seq.dwell) _ (fun s n => by split <;> simp) _ _

/-- The threads of a module return leave the counters in range (R132, R138). -/
theorem handThreads_countersSound (r : ModuleReturn) {s : State} (h : s.countersSound) : (handThreads r s).countersSound := by
  obtain ⟨hlink, htally, hdwell, hhistory, hlog⟩ := (countersSound_iff s).mp h
  unfold handThreads
  split
  · split
    · exact h
    · rw [countersSound_iff, takeThreadReport_dwell]
      simp only [takeThreadReport_frame]
      exact ⟨hlink, htally, hdwell, hhistory, takeThreadReport_log_le _ _ _ hlog⟩
  · exact h

/-- A module return leaves the counters in range (R120, R122, R132). -/
theorem takeReturn_countersSound (r : ModuleReturn) {s : State} (h : s.countersSound) : (takeReturn r s).countersSound := by
  unfold takeReturn
  split
  · obtain ⟨hlink, hrest⟩ := (countersSound_iff s).mp h
    have hnoted : State.countersSound { s with link := (s.link.noteReturn r).wakeReturn r } :=
      (countersSound_iff _).mpr ⟨wakeReturn_inRange r (noteReturn_inRange r hlink), hrest⟩
    exact countersSound_congr (by simp [counters_eq_iff]) (handThreads_countersSound r hnoted)
  · exact h

/-! ### A frame -/

/-- The dwell run saturates at 255 (R40). -/
theorem raiseDwell_le {n : Nat} (h : n ≤ 255) : raiseDwell n ≤ 255 := by
  unfold raiseDwell
  split <;> omega

/-- The kind of a frame leaves the dwell run in range (R40). -/
theorem reportKind_dwell_le (k : FrameKind) {s : State} (h : s.seq.dwell ≤ 255) : (reportKind k s).seq.dwell ≤ 255 := by
  unfold reportKind
  split
  · simp only
    split <;> simpa using raiseDwell_le h
  · exact Nat.zero_le _

/-- A frame driven raises the wake count only where it is WAKE (R120). -/
theorem driveFrame_wakeCount_le (f : HeadFrame) {s : State} (hk : f.kind = .wake → s.link.wakeCount < 32)
    (h : s.link.wakeCount ≤ 32) : (driveFrame f s).link.wakeCount ≤ 32 := by
  have hkeeps : (if s.line.mode = .loopback then s.link else { s.link with out := some f, receiver := .hunting }).wakeCount
      = s.link.wakeCount := by split <;> rfl
  simp only [driveFrame, hkeeps]
  split
  next hw => exact hk hw
  next => exact h

/-- A frame leaves the counters in range, where a WAKE frame finds the wake not run out (R40, R112, R120). -/
theorem sendFrame_countersSound (seq : Half) {k : FrameKind} {s : State} (hk : k = .wake → s.link.wakeCount < 32)
    (h : s.countersSound) : (sendFrame seq k s).countersSound := by
  obtain ⟨⟨hwake, hmiss, hmarker⟩, htally, hdwell, hhistory, hlog⟩ := (countersSound_iff s).mp h
  obtain ⟨f, hf⟩ : ∃ f, f = (moveBars k s).headFrame seq k := ⟨_, rfl⟩
  have hkind : f.kind = k := by rw [hf]; rfl
  have hsent : (reportKind k (writeHistory f (countQueryFrame (driveFrame f (moveBars k s))))).countersSound := by
    refine (countersSound_iff _).mpr ⟨?_, ?_, ?_, ?_, ?_⟩
    · refine ⟨?_, ?_, ?_⟩
      · simpa using driveFrame_wakeCount_le f (s := moveBars k s) (hkind ▸ hk) hwake
      · simpa [moveBars] using hmiss
      · simpa [moveBars] using hmarker
    · simpa [driveFrame, moveBars] using htally
    · exact reportKind_dwell_le k (by simpa [driveFrame, moveBars] using hdwell)
    · simp only [reportKind_frame]
      exact List.length_take_le _ _
    · simpa [driveFrame, moveBars] using hlog
  simp only [sendFrame, ← hf]
  split
  · exact countersSound_congr (by simp [counters_eq_iff]) hsent
  · exact hsent

/-! ### Requests -/

/-- A reset of the queue and the lanes puts the dwell run to 0 and counts the feeds in flight (R42, R44, R160). -/
theorem resetQueue_countersSound {s : State} (h : s.countersSound) : (resetQueue s).countersSound := by
  obtain ⟨hlink, htally, -, hhistory, hlog⟩ := (countersSound_iff _).mp (takeFeeds_countersSound h)
  rw [countersSound_iff]
  refine ⟨by simpa using hlink, ?_, Nat.zero_le _, by simpa using hhistory, by simpa using hlog⟩
  simpa [resetQueue] using htally

/-- LINE_RESET empties the history and puts the miss counts to 0 besides (R176). -/
theorem doLineReset_countersSound {s : State} (h : s.countersSound) : (doLineReset s).1.countersSound := by
  obtain ⟨hlink, htally, hdwell, -, hlog⟩ := (countersSound_iff _).mp (resetQueue_countersSound h)
  exact (countersSound_iff _).mpr ⟨inRange_of_miss_zero hlink hlink.1 rfl rfl, htally, hdwell, Nat.zero_le _, hlog⟩

/-- TALLY_CONTROL leaves the fed-length counts, or puts them to 0 (R154). -/
theorem doTallyControl_countersSound (bits : Byte) {s : State} (h : s.countersSound) : (doTallyControl bits s).1.countersSound := by
  obtain ⟨hlink, htally, hdwell, hhistory, hlog⟩ := (countersSound_iff _).mp (takeFeeds_countersSound h)
  refine (countersSound_iff _).mpr ⟨hlink, ?_, hdwell, hhistory, hlog⟩
  simp only [doTallyControl]
  split
  · exact ⟨Nat.zero_lt_succ _, Nat.zero_lt_succ _⟩
  · exact htally

/-- SET_SLOT_MAP puts the miss counts to 0 (R115). -/
theorem doSetSlotMap_countersSound (slots : Vector Byte 4) (feed : Byte) {s : State} (h : s.countersSound) :
    (doSetSlotMap slots feed s).1.countersSound := by
  obtain ⟨hlink, hrest⟩ := (countersSound_iff s).mp h
  unfold doSetSlotMap
  (repeat' split)
  case h_1.isFalse => exact (countersSound_iff _).mpr ⟨inRange_of_miss_zero hlink hlink.1 rfl rfl, hrest⟩
  all_goals exact h

/-- LINK_START puts the wake count and the miss counts to 0 (R119). -/
theorem doLinkStart_countersSound {s : State} (h : s.countersSound) : (doLinkStart s).1.countersSound := by
  obtain ⟨hlink, hrest⟩ := (countersSound_iff s).mp h
  have hwaking : State.countersSound { s with link := { s.link with
      state := .waking, awake := 0, missing := 0, wakeCount := 0, miss := Vector.replicate 6 0 } } :=
    (countersSound_iff _).mpr ⟨inRange_of_miss_zero hlink (Nat.zero_le _) rfl rfl, hrest⟩
  unfold doLinkStart
  (repeat' split) <;> assumption

/-- HEAD_QUERY takes the next marker (R124). -/
theorem doHeadQuery_countersSound (slot item : Byte) {s : State} (h : s.countersSound) : (doHeadQuery slot item s).1.countersSound := by
  obtain ⟨⟨hwake, hmiss, -⟩, hrest⟩ := (countersSound_iff s).mp h
  unfold doHeadQuery
  split
  · exact h
  · (repeat' split)
    · exact h
    · exact h
    · exact (countersSound_iff _).mpr ⟨⟨hwake, hmiss, nextMarker_mem _⟩, hrest⟩

/-- RETIRE_REPAIRS shortens the repair log (R142). -/
theorem doRetireRepairs_countersSound (k : Byte) {s : State} (h : s.countersSound) : (doRetireRepairs k s).1.countersSound := by
  obtain ⟨hlink, htally, hdwell, hhistory, hlog⟩ := (countersSound_iff s).mp h
  refine (countersSound_iff _).mpr ⟨hlink, htally, hdwell, hhistory, ?_⟩
  simp only [doRetireRepairs, List.length_drop]
  omega

/-- A change of mode counts the feeds in flight and leaves every other counter (R174). -/
theorem changeMode_countersSound (m : Mode) {s : State} (h : s.countersSound) : (changeMode m s).countersSound :=
  countersSound_congr rfl (takeFeeds_countersSound h)

/-- SET_MODE leaves the counters in range (R174). -/
theorem execSetModeHead_countersSound (mode : Byte) {s : State} (h : s.countersSound) : (execSetModeHead mode s).countersSound := by
  have hfinish : ∀ (a : Answer) {t : State}, t.countersSound → (finishHead a t).countersSound :=
    fun a _ ht => countersSound_congr (by simp [counters_eq_iff]) ht
  unfold execSetModeHead
  split
  · exact hfinish _ h
  · split
    · exact countersSound_congr (by rfl) (changeMode_countersSound .echo (hfinish _ h))
    · exact hfinish _ (changeMode_countersSound _ h)

/-- SET_CONFIG leaves every counter (R171). -/
theorem doSetConfig_counters (item lane : Byte) (value : Half) (s : State) :
    (doSetConfig item lane value s).1.counters = s.counters := by
  unfold doSetConfig setFmax setBreakAction
  (repeat' split) <;> rfl

/-- A request that may write a figure leaves the counters in range; the writes of the tables leave them as they are. -/
theorem execHead_countersSound {r : Request} (hr : r.writesFigures = true) {s : State} (h : s.countersSound) :
    (execHead r s).countersSound := by
  have hfinish : ∀ {q : State × Answer}, q.1.countersSound → (finish q).countersSound :=
    fun hq => countersSound_congr (by simp [counters_eq_iff]) hq
  cases r
  case setInterlock | setBand | setCompensation => exact hfinish (countersSound_congr (by simp [counters_eq_iff]) h)
  case setConfig => exact hfinish (countersSound_congr (doSetConfig_counters _ _ _ s) h)
  case setSlotMap => exact hfinish (doSetSlotMap_countersSound _ _ h)
  case linkStart => exact hfinish (doLinkStart_countersSound h)
  case headQuery slot item =>
    exact countersSound_congr (by simp [counters_eq_iff, execHead]) (doHeadQuery_countersSound slot item h)
  case retireRepairs => exact hfinish (doRetireRepairs_countersSound _ h)
  case tallyControl => exact hfinish (doTallyControl_countersSound _ h)
  case readTally => exact hfinish (takeFeeds_countersSound h)
  case setMode => exact execSetModeHead_countersSound _ h
  case resetQueue =>
    refine hfinish ?_
    unfold doResetQueue
    split
    · exact h
    · exact resetQueue_countersSound h
  case lineReset => exact hfinish (doLineReset_countersSound h)
  all_goals cases hr

/-- The ranges of the counters are kept by whatever writes a figure. -/
theorem keptFigures_countersSound : KeptFigures State.countersSound where
  figures h hst := countersSound_congr hst.2 h
  reset := by unfold State.countersSound; decide
  feed f _ h := tallyFeed_countersSound f h
  writes hr h := execHead_countersSound hr h
  returned r _ h := takeReturn_countersSound r h
  evaluated h := evalLink_countersSound h
  sent seq _ _ hk h := sendFrame_countersSound seq hk h

end Sys2Proof.Machine

open Sys2Proof Sys2Proof.Machine

/-- Settles O59: both ranges are properties of the figures, and every operation that writes a figure keeps them. -/
theorem tablesAndCountersStayInRange : Obligations.TablesAndCountersStayInRange := by
  unfold Obligations.TablesAndCountersStayInRange
  exact ⟨fun _ _ h hx => keptFigures_tablesSound.step_next h hx, fun _ _ h hx => keptFigures_countersSound.step_next h hx⟩

end

section
/-!
SUPPORT. The send point of a CYCLE frame at a ready part whose link is up (R94, R96, R103, R123, R163): the state at which the frame kind is
decided, and what follows a frame with no report to take.
-/

namespace Sys2Proof.Machine

/-! ### Acceptance (R163) -/

/-- The first sequence and the one after the last accepted are accepted (R163). -/
theorem judgeSequence_next {last : Option Half} {seq : Half} (h : last = none ∨ last = some (seq - 1)) :
    judgeSequence last seq = .accept := by
  obtain rfl | rfl := h
  · rfl
  · have hback : seq - (seq - 1) = 1 := by bv_omega
    have hone : distanceAhead (seq - 1) seq = 1 := by
      rw [distanceAhead, hback]
      rfl
    simp only [judgeSequence, hone, if_true]

/-- A CYCLE frame at a ready part is accepted, and its send point follows (R161, R163). -/
theorem submitCycle_ready {seq : Half} {s : State} (h : s.cycleReady seq) (run : Byte) (speed : Half) (order : List Report) :
    submitCycle seq run speed order s = acceptCycle seq run speed order s := by
  obtain ⟨⟨hreceptive, -⟩, -, -, hseq⟩ := h
  rw [receive_cycle order seq run speed hreceptive, takeCycle, judgeSequence_next hseq]

/-! ### Stages 1 and 2 (R94, R96, R123) -/

/-- With no report in flight to a lane, its report changes nothing (log 6). -/
theorem takeLaneReport_none {l : LaneId} {s : State} (h : s.reports.consumption[l] = .none) : takeLaneReport l s = s := by
  unfold takeLaneReport
  split
  · rfl
  next hc => exact absurd h hc

/-- With no report in flight but phase notices, none is taken at the start of a send point (log 3). -/
theorem settleReports_quiet {s : State} (h : s.reports = { Reports.none with notices := s.reports.notices }) :
    settleReports s = s := by
  have hlane : ∀ l, takeLaneReport l s = s := fun l => takeLaneReport_none (by rw [h]; simp [Reports.none])
  have hseq : takeSequencerReport s = s := by
    unfold takeSequencerReport
    rw [h]
    rfl
  have hfeeds : takeFeeds s = s := by
    have hnone : s.reports.feeds = [] := by rw [h]; rfl
    have hsame : { s.reports with feeds := [] } = s.reports := by rw [← hnone]
    simp only [takeFeeds, hnone, hsame, List.foldl_nil]
  simp only [settleReports, takeReports, List.foldl_cons, List.foldl_nil, takeReport, hlane, hseq, hfeeds]

/-- No slot is lost while every miss count is below 3 (R123). -/
theorem lostSlots_eq_zero {miss : Vector Nat 6} (h : ∀ k : SlotId, miss[k] < 3) : lostSlots miss = 0 := by
  refine List.foldlRecOn (motive := (· = 0)) _ _ rfl fun m hm k _ => ?_
  have hlow : ¬ Config.missLimit ≤ miss[k] := Nat.not_le.mpr (h k)
  rw [if_neg hlow]
  exact hm

/-- A link that is up stays up: no miss is counted, and the READY-seen marks are cleared (R123). -/
theorem evalLink_up {s : State} (h : s.linkUp) : evalLink s = { s with link := { s.link with seen := 0 } } := by
  obtain ⟨hactive, hseen, hmiss, -⟩ := h
  have hkeeps : ∀ k, s.link.missAfter k = s.link.miss[k] := by
    intro k
    have hbit : (inSlots s.link.mapped k && !inSlots s.link.seen k) = (s.link.mapped &&& ~~~s.link.seen).getLsbD k.val := by
      simp [inSlots]
    rw [HeadLink.missAfter, hbit, hseen]
    exact if_neg (by simp)
  have hcount : s.link.countMisses = { s.link with seen := 0 } := by
    have hall : Vector.ofFn s.link.missAfter = s.link.miss := by
      ext i hi
      simpa using hkeeps ⟨i, hi⟩
    rw [HeadLink.countMisses, hall]
  simp only [evalLink, hactive, hcount, lostSlots_eq_zero hmiss, if_true]

/-- The state at which a ready part decides the frame kind: the CYCLE frame recorded, the band selected, the READY-seen marks cleared
(R96, R123, R163). -/
def State.judged (seq : Half) (run : Byte) (speed : Half) (s : State) : State :=
  { s.opened seq run speed with link := { s.link with seen := 0 } }

/-- Stages 1 and 2 of the send point of a ready part whose link is up. -/
theorem openSendPoint_ready {seq : Half} {s : State} (h : s.cycleReady seq) (hl : s.linkUp) (run : Byte) (speed : Half) :
    openSendPoint (cycleInfo run speed).speed
        { s with line := { s.line with lastSeq := some seq, latest := some (cycleInfo run speed) } }
      = s.judged seq run speed := by
  obtain ⟨-, -, hreports, -⟩ := h
  rw [openSendPoint, settleReports_quiet (by exact hreports)]
  exact evalLink_up (s := s.opened seq run speed) hl

/-! ### A frame with no report to take before its STATUS frame -/

/-- A CYCLE frame at a ready part whose link is up, with no report taken before the STATUS frame: the frame of the kind decided is sent and
STATUS answers it (R103, R104, R164). -/
theorem exec_cycleFrame_ready {seq : Half} {run : Byte} {speed : Half} {s t : State} {k : FrameKind} (h : s.cycleReady seq)
    (hl : s.linkUp) (hk : (s.judged seq run speed).decideKind (run.getLsbD 0) = some k)
    (ht : sendFrame seq k (s.judged seq run speed) = t) (hmode : t.line.mode = .normal) (hqueue : t.mgmt.queue = []) :
    exec (.cycleFrame seq run speed []) s = .next (t.withStatus seq (some k)) := by
  have hstatus : sendStatus seq (some k) t = t.withStatus seq (some k) := if_neg (by rw [hmode]; decide)
  have hsynthetic : ∀ q, syntheticReturns seq q t = t := fun q => if_neg (by rw [hmode]; decide)
  refine congrArg Host.Outcome.next ?_
  rw [submitCycle_ready h, acceptCycle, sendPoint]
  simp only [openSendPoint_ready h hl]
  have hrun : (cycleInfo run speed).run = run.getLsbD 0 := rfl
  simp only [hrun, hk, sendKind, ht, takeReports, List.foldl_nil, hsynthetic, hstatus, drainQueue, State.withStatus, produce_mgmt,
    hqueue, List.length_nil, runQueue]

end Sys2Proof.Machine
end

section
/-!
SUPPORT. The STEP frame: when it is decided (R99, R104), and what it leaves (R106, R107, R111, R112).
-/

namespace Sys2Proof.Machine

/-! ### The settle test (R99) -/

/-- The model's unsettled test is the settle test of R99. -/
theorem unsettled_iff (r : Ready) (pos dmax : Nat) : r.unsettled pos dmax = true ↔ ¬ r.settled pos dmax := by
  have hclass : r.cls.waitsForBar = true ↔ r.cls = .stitch ∨ r.cls = .tack ∨ r.cls = .trim := by cases r.cls <;> decide
  have htravel : dmax < r.travelFrom pos ↔ ¬ ∀ t, r.target = some t → t ≤ pos + dmax ∧ pos ≤ t + dmax := by
    unfold Ready.travelFrom travel
    cases r.target with
    | none => simp
    | some t =>
      simp only [Option.some.injEq, forall_eq']
      split <;> omega
  simp only [Ready.unsettled, Ready.settled, Bool.or_eq_true, Bool.and_eq_true, decide_eq_true_eq, hclass, htravel]
  rw [Classical.not_and_iff_not_or_not, Classical.not_imp, Nat.pos_iff_ne_zero]

/-- A ready part that stitches or steps offers every record (R57). -/
theorem allOffer_of_recordsOffered {s : State} (h : s.recordsOffered) : s.allOffer = true := by
  simp only [State.allOffer, List.all_eq_true, Bool.or_eq_true, Bool.not_eq_true']
  intro l _
  cases hf : s.fitted l with
  | false => exact .inl rfl
  | true =>
    obtain ⟨r, hr, hn⟩ := h l hf
    exact .inr (by rw [Lane.offers, hr, hn]; rfl)

/-- Every lane is one of the four. -/
theorem mem_allLanes (l : LaneId) : l ∈ allLanes := by revert l; decide

/-- Where a part stitches or steps, it steps exactly while some record is unsettled (R104). -/
theorem decideKind_stitching {seq : Half} {run : Byte} {s : State} (h : s.stitching seq run) (speed : Half) :
    (s.judged seq run speed).decideKind (run.getLsbD 0) =
      if (s.judged seq run speed).someUnsettled then some .step else some .advance := by
  obtain ⟨⟨-, hmode, -⟩, ⟨hactive, -⟩, hrun, hrunning, hcarry, hphase, hoffered⟩ := h
  have hoffer : (s.judged seq run speed).allOffer = true := allOffer_of_recordsOffered (s := s.judged seq run speed) hoffered
  simp only [State.decideKind, hoffer, hrun]
  simp [State.judged, State.opened, hmode, hactive, hrunning, hcarry, hphase]

/-- The Dmax of a lane at the send point is that of the band of its speed (R94, R95). -/
theorem judged_dmax (seq : Half) (run : Byte) (speed : Half) (s : State) (l : LaneId) :
    (s.judged seq run speed).dmax l = s.dmaxAt speed l := rfl

/-- Some record is unsettled at the send point (R99). -/
theorem someUnsettled_judged {seq : Half} {run : Byte} {speed : Half} {s : State} {l : LaneId} {r : Ready} (hf : s.fitted l = true)
    (hr : s.lanes[l].ready = some r) (hu : ¬ r.settled s.asm.pos[l] (s.dmaxAt speed l)) :
    (s.judged seq run speed).someUnsettled = true := by
  refine List.any_eq_true.mpr ⟨l, mem_allLanes l, ?_⟩
  have hready : (s.judged seq run speed).lanes[l].ready = some r := hr
  rw [State.laneUnsettled, hready, judged_dmax]
  exact Bool.and_eq_true_iff.mpr ⟨hf, (unsettled_iff _ _ _).mpr hu⟩

/-! ### The bars and the rests (R106) -/

/-- A bar moves by the lesser of its travel and Dmax (R106). -/
theorem moveToward_eq (pos target dmax : Nat) :
    moveToward pos target dmax = if pos ≤ target then min target (pos + dmax) else max target (pos - dmax) := by
  unfold moveToward
  split <;> omega

/-- The bars move as Safety.lean writes it out (R106). -/
theorem movedPos_judged (seq : Half) (run : Byte) (speed : Half) (s : State) :
    Vector.ofFn (s.judged seq run speed).movedPos = s.barsMoved speed := by
  refine congrArg Vector.ofFn (funext fun l => ?_)
  have hfitted : (s.judged seq run speed).fitted l = s.fitted l := rfl
  have hready : (s.judged seq run speed).lanes[l].ready = s.lanes[l].ready := rfl
  have hpos : (s.judged seq run speed).asm.pos[l] = s.asm.pos[l] := rfl
  unfold State.movedPos
  simp only [hfitted, hready, hpos, judged_dmax, moveToward_eq]
  cases s.fitted l with
  | false => rfl
  | true =>
    cases s.lanes[l].ready with
    | none => rfl
    | some r => cases ht : r.target <;> simp [ht]

/-- The lanes after a STEP frame: every record of a fitted lane that owes rests has paid one (R106). -/
def State.restsPaid (s : State) : Vector Lane 4 :=
  Vector.ofFn (fun l => if s.fitted l then s.lanes[l].payRest else s.lanes[l])

/-- A rest paid leaves the items a frame reports of the feed lane (R84, R112). -/
theorem feedLaneContext_restsPaid {β : Type} (g : Lane → β) (hg : ∀ ln, g ln.payRest = g ln) (s : State) :
    ({ s with lanes := s.restsPaid } : State).feedLaneContext.map g = s.feedLaneContext.map g := by
  have hlane : ∀ l : LaneId, g s.restsPaid[l] = g s.lanes[l] := by
    intro l
    simp only [State.restsPaid, Fin.getElem_fin, Vector.getElem_ofFn]
    split
    · exact hg _
    · rfl
  have hover : ∀ l, State.panelOver { s with lanes := s.restsPaid } l = s.panelOver l := fun _ => rfl
  unfold State.feedLaneContext
  simp only [hover]
  split
  next ctx _ _ =>
    split
    · rfl
    · exact congrArg some (hlane ctx.desc.feedLane)
  next => rfl

/-- No query outstanding rides in no frame (R124). -/
theorem riding_of_no_query {h : HeadLink} (hq : h.query = none) : h.riding = none := by
  rw [HeadLink.riding, hq]

/-- A frame counts for no query where none is outstanding (R125). -/
theorem countQueryFrame_of_no_query {s : State} (hq : s.link.query = none) : countQueryFrame s = s := by
  have hout : s.link.queryRunsOut = false := by rw [HeadLink.queryRunsOut, hq]
  have hlink : { s.link with query := s.link.query.map Query.countFrame } = s.link := by
    rw [hq, Option.map_none, ← hq]
  rw [countQueryFrame, hout, if_neg Bool.false_ne_true, hlink]

/-- A frame other than WAKE driven in NORMAL mode (R105, log 20). -/
theorem driveFrame_normal {f : HeadFrame} {s : State} (hmode : s.line.mode = .normal) (hk : f.kind ≠ .wake) :
    driveFrame f s =
      { s with
        asm := { s.asm with carryPending := false }
        link := { s.link with out := some f, receiver := .hunting } } := by
  have hloop : s.line.mode ≠ .loopback := by rw [hmode]; decide
  simp only [driveFrame, if_neg hloop, if_neg hk]

/-- The history takes the entry of a frame in front and keeps the last eight (R112). -/
theorem writeHistory_of_entry {f : HeadFrame} {s : State} {e : HistoryEntry} (h : s.historyEntry f = e) :
    writeHistory f s = { s with asm := { s.asm with history := (e :: s.asm.history).take 8 } } := by
  rw [← h]
  rfl

/-- The history entry of a STEP frame is that of the state before it, with the bars where the frame moves them (R112). -/
theorem historyEntry_moveBars_step (f : HeadFrame) (s : State) :
    (moveBars .step s).historyEntry f = { s.historyEntry f with pos := Vector.ofFn s.movedPos } := by
  have hctx : ∀ {β : Type} (g : Lane → β), (∀ ln, g ln.payRest = g ln) →
      (moveBars .step s).feedLaneContext.map g = s.feedLaneContext.map g := fun g hg => feedLaneContext_restsPaid g hg s
  simp only [State.historyEntry, State.repeatIdx, State.stitchIdx, State.yFed, hctx Lane.repeatIdx fun _ => rfl,
    hctx Lane.stitchIdx fun _ => rfl, hctx Lane.yFed fun _ => rfl]
  rfl

/-- The STEP frame with the bars at `pos`: every needle up, no trim, no feed and no query (R107 to R109, R111). -/
def State.stepFrame (seq : Half) (pos : Vector Nat 4) (s : State) : HeadFrame :=
  ⟨seq, .step, allLanes.filterMap (fun l => s.link.slotLane[l].map (fun k => ⟨k, pos[l], 0, false⟩)), s.link.slotFeed, 0, none⟩

/-- The head frame of a STEP, its bars moved already, with no query outstanding (R111). -/
theorem headFrame_step (seq : Half) {s : State} (hquery : s.link.query = none) :
    (moveBars .step s).headFrame seq .step = s.stepFrame seq (Vector.ofFn s.movedPos) := by
  have hriding : (moveBars .step s).link.riding = none := riding_of_no_query hquery
  rw [State.headFrame, hriding]
  rfl

/-- What a STEP frame leaves in NORMAL mode with no query outstanding: the bars moved, the rests paid, the frame driven and written into
the history, the dwell run at 0 (R40, R105, R106, R112). -/
theorem sendFrame_step (seq : Half) {s : State} (hmode : s.line.mode = .normal) (hquery : s.link.query = none) :
    sendFrame seq .step s =
      { s.framed (s.stepFrame seq (Vector.ofFn s.movedPos)) (Vector.ofFn s.movedPos) with
        seq := { s.seq with dwell := 0 }
        lanes := s.restsPaid } := by
  have hwritten : ∀ f : HeadFrame, f.kind = .step → writeHistory f (countQueryFrame (driveFrame f (moveBars .step s)))
      = { s.framed f (Vector.ofFn s.movedPos) with lanes := s.restsPaid } := by
    intro f hf
    rw [driveFrame_normal (by exact hmode) (by simp [hf]), countQueryFrame_of_no_query (by exact hquery),
      writeHistory_of_entry (by exact historyEntry_moveBars_step f s)]
    rfl
  simp only [sendFrame, headFrame_step seq hquery, hwritten (s.stepFrame seq _) rfl]
  rfl

end Sys2Proof.Machine

open Sys2Proof Sys2Proof.Machine

/-- Settles O11: the send point of a ready part decides STEP, and the STEP frame is what the statement writes out. -/
theorem stepFramePaysRests : Obligations.StepFramePaysRests := by
  unfold Obligations.StepFramePaysRests
  intro seq run speed s h ⟨l, r, hf, hr, hu⟩ pos f t
  have hkind : (s.judged seq run speed).decideKind (run.getLsbD 0) = some .step := by
    rw [decideKind_stitching h, someUnsettled_judged hf hr hu, if_pos rfl]
  obtain ⟨hready, hlink, -⟩ := h
  have ⟨⟨_, hidle⟩, hmode, _⟩ := hready
  have ⟨_, _, _, hquery⟩ := hlink
  have hqueue : s.mgmt.queue = [] := by rw [hidle]
  have hsent := sendFrame_step seq (s := s.judged seq run speed) hmode hquery
  rw [movedPos_judged] at hsent
  exact exec_cycleFrame_ready hready hlink hkind hsent hmode hqueue

end

section
/-!
SUPPORT. Requests that end at once without a look at the management queue, and the statement about the needle requests and the repair
log (R141 to R146).
-/

namespace Sys2Proof.Machine

/-! ### Requests that do not look at the management queue -/

/-- A request's effects and answer do not depend on the management queue, and leave it (R166). -/
def QueueBlind (f : State → State × Answer) : Prop :=
  ∀ (m : MgmtUnit) (s : State), f { s with mgmt := m } = ({ (f s).1 with mgmt := m }, (f s).2)

/-- Such a request leaves the queue as it was. -/
theorem QueueBlind.mgmt_eq {f : State → State × Answer} (hf : QueueBlind f) (s : State) : (f s).1.mgmt = s.mgmt :=
  congrArg (fun r : State × Answer => r.1.mgmt) (hf s.mgmt s)

/-- Such a request at a part at rest is answered with what it does at the state as it stands (R165 to R167). -/
theorem QueueBlind.submit_eq {f : State → State × Answer} (hf : QueueBlind f) {s : State} {r : Request} (h : s.attentive) (tag : Byte)
    (hx : ∀ u, execHead r u = finish (f u)) (hp : parseRequest r.code r.args = .request r) (hl : r.args.length ≤ 253) :
    submit tag r s = answered tag r (f s).2.result (f s).2.data (f s).1 :=
  submit_answered h hp hl ((hf.mgmt_eq s).trans h.2) (by rw [hx, hf])

/-! ### The needle a request names (R144 to R146) -/

/-- A lane above 3 or a needle above 47 names no needle (R181). -/
theorem unnamed_needle {x y : Byte} (h : 4 ≤ x.toNat ∨ 48 ≤ y.toNat) : laneOf x = none ∨ needleOf y = none :=
  h.imp indexOf_of_le indexOf_of_le

/-- RESERVE_NEEDLE of no needle (R144). -/
theorem doReserveNeedle_unnamed {x y : Byte} (h : laneOf x = none ∨ needleOf y = none) (s : State) :
    doReserveNeedle x y s = (s, ⟨.range, []⟩) := by
  rcases h with hx | hy
  · simp only [doReserveNeedle, hx]
  · cases hx : laneOf x <;> simp only [doReserveNeedle, hx, hy]

/-- RESTORE_NEEDLE of no needle (R145). -/
theorem doRestoreNeedle_unnamed {x y : Byte} (h : laneOf x = none ∨ needleOf y = none) (s : State) :
    doRestoreNeedle x y s = (s, ⟨.range, []⟩) := by
  rcases h with hx | hy
  · simp only [doRestoreNeedle, hx]
  · cases hx : laneOf x <;> simp only [doRestoreNeedle, hx, hy]

/-- LOCK_NEEDLE of no needle (R146). -/
theorem doLockNeedle_unnamed {x y : Byte} (h : laneOf x = none ∨ needleOf y = none) (s : State) :
    doLockNeedle x y s = (s, ⟨.range, []⟩) := by
  rcases h with hx | hy
  · simp only [doLockNeedle, hx]
  · cases hx : laneOf x <;> simp only [doLockNeedle, hx, hy]

/-- A release leaves the entries and the log, and the reservation unless it names the needle (R143). -/
theorem release_eq (t : NeedleTable) (l : LaneId) (n : NeedleId) :
    t.release l n = { t with reservation := if t.reservation = some (l, n) then none else t.reservation } := by
  unfold NeedleTable.release
  split <;> rfl

section Named

variable {x y : Byte} {l : LaneId} {n : NeedleId} (hx : laneOf x = some l) (hy : needleOf y = some n) (s : State)
include hx hy

/-- RESERVE_NEEDLE of a needle there is (R144). -/
theorem doReserveNeedle_named : doReserveNeedle x y s =
    if (s.needles.entry l n).state = .absent then (s, ⟨.absent, []⟩)
    else ({ s with needles := { s.needles with reservation := some (l, n) } },
      ⟨.done, [(s.needles.entry l n).state.code] ++ be1 (s.needles.entry l n).breaks⟩) := by
  simp only [doReserveNeedle, hx, hy]

/-- RESTORE_NEEDLE of a needle there is: only a BROKEN or LOCKED needle with its own reservation changes (R145). -/
theorem doRestoreNeedle_named : doRestoreNeedle x y s =
    if (s.needles.entry l n).state = .absent then ({ s with needles := { s.needles with reservation := none } }, ⟨.absent, []⟩)
    else if (s.needles.entry l n).state = .engaged then ({ s with needles := { s.needles with reservation := none } }, ⟨.done, []⟩)
    else if s.needles.reservation ≠ some (l, n) then ({ s with needles := { s.needles with reservation := none } }, ⟨.lost, []⟩)
    else ({ s with needles := { s.needles.setEntry l n { s.needles.entry l n with state := .engaged } with reservation := none } },
      ⟨.done, []⟩) := by
  simp only [doRestoreNeedle, hx, hy, ite_not]
  cases (s.needles.entry l n).state <;> rfl

/-- LOCK_NEEDLE of a needle there is (R146). -/
theorem doLockNeedle_named : doLockNeedle x y s =
    if (s.needles.entry l n).state = .absent then (s, ⟨.absent, []⟩)
    else ({ s with needles := (s.needles.setEntry l n { s.needles.entry l n with state := .locked }).release l n }, ⟨.done, []⟩) := by
  simp only [doLockNeedle, hx, hy]
  cases (s.needles.entry l n).state <;> rfl

end Named

/-- Two bytes name a needle or none. -/
theorem named_or_unnamed (x y : Byte) :
    (laneOf x = none ∨ needleOf y = none) ∨ ∃ l n, laneOf x = some l ∧ needleOf y = some n := by
  cases laneOf x <;> cases needleOf y <;> simp

/-- RESERVE_NEEDLE reads and writes the Needle Table only (R144). -/
theorem doReserveNeedle_queueBlind (x y : Byte) : QueueBlind (doReserveNeedle x y) := by
  intro m s
  rcases named_or_unnamed x y with h | ⟨l, n, hx, hy⟩
  · simp only [doReserveNeedle_unnamed h]
  · simp only [doReserveNeedle_named hx hy]
    split <;> rfl

/-- RESTORE_NEEDLE reads and writes the Needle Table only (R145). -/
theorem doRestoreNeedle_queueBlind (x y : Byte) : QueueBlind (doRestoreNeedle x y) := by
  intro m s
  rcases named_or_unnamed x y with h | ⟨l, n, hx, hy⟩
  · simp only [doRestoreNeedle_unnamed h]
  · simp only [doRestoreNeedle_named hx hy]
    (repeat' split) <;> rfl

/-- LOCK_NEEDLE reads and writes the Needle Table only (R146). -/
theorem doLockNeedle_queueBlind (x y : Byte) : QueueBlind (doLockNeedle x y) := by
  intro m s
  rcases named_or_unnamed x y with h | ⟨l, n, hx, hy⟩
  · simp only [doLockNeedle_unnamed h]
  · simp only [doLockNeedle_named hx hy]
    split <;> rfl

/-! ### The repair log (R141, R142) -/

/-- READ_REPAIRS, its counts written as numbers of the log (R141). -/
theorem doReadRepairs_eq (k : Byte) (s : State) : doReadRepairs k s =
    if k.toNat < 1 ∨ 4 < k.toNat then (s, ⟨.range, []⟩)
    else if s.needles.log = [] then (s, ⟨.empty, []⟩)
    else (s, ⟨if k.toNat ≤ s.needles.log.length then .done else .clamped,
      be1 s.needles.log.length ++ be1 (min k.toNat s.needles.log.length) ++ (s.needles.log.take k.toNat).flatMap Repair.bytes⟩) := by
  have hcarried : min k.toNat s.needles.log.length = k.toNat ↔ k.toNat ≤ s.needles.log.length := by omega
  simp only [doReadRepairs, List.length_take, hcarried]

/-- RETIRE_REPAIRS, its counts written as numbers of the log (R142). -/
theorem doRetireRepairs_eq (k : Byte) (s : State) : doRetireRepairs k s =
    ({ s with needles := { s.needles with log := s.needles.log.drop k.toNat } },
      ⟨if k.toNat ≤ s.needles.log.length then .done else .clamped,
        be1 (min k.toNat s.needles.log.length) ++ be1 (s.needles.log.length - k.toNat)⟩) := by
  simp only [doRetireRepairs, List.length_drop]

/-- READ_REPAIRS reads the repair log only (R141). -/
theorem doReadRepairs_queueBlind (k : Byte) : QueueBlind (doReadRepairs k) := by
  intro m s
  simp only [doReadRepairs_eq]
  (repeat' split) <;> rfl

/-- RETIRE_REPAIRS reads and writes the repair log only (R142). -/
theorem doRetireRepairs_queueBlind (k : Byte) : QueueBlind (doRetireRepairs k) := fun _ _ => rfl

/-! ### The requests as they arrive -/

section Arrival

variable {s : State} (h : s.attentive) (tag x y : Byte)
include h

/-- RESERVE_NEEDLE arrives at a part at rest (R144). -/
theorem exec_reserveNeedle : exec (.reserveNeedle tag x y) s = .next (answered tag (.reserveNeedle x y)
    (doReserveNeedle x y s).2.result (doReserveNeedle x y s).2.data (doReserveNeedle x y s).1) :=
  congrArg Host.Outcome.next ((doReserveNeedle_queueBlind x y).submit_eq h tag (fun _ => rfl) rfl (by simp [Request.args]))

/-- RESTORE_NEEDLE arrives at a part at rest (R145). -/
theorem exec_restoreNeedle : exec (.restoreNeedle tag x y) s = .next (answered tag (.restoreNeedle x y)
    (doRestoreNeedle x y s).2.result (doRestoreNeedle x y s).2.data (doRestoreNeedle x y s).1) :=
  congrArg Host.Outcome.next ((doRestoreNeedle_queueBlind x y).submit_eq h tag (fun _ => rfl) rfl (by simp [Request.args]))

/-- LOCK_NEEDLE arrives at a part at rest (R146). -/
theorem exec_lockNeedle : exec (.lockNeedle tag x y) s = .next (answered tag (.lockNeedle x y)
    (doLockNeedle x y s).2.result (doLockNeedle x y s).2.data (doLockNeedle x y s).1) :=
  congrArg Host.Outcome.next ((doLockNeedle_queueBlind x y).submit_eq h tag (fun _ => rfl) rfl (by simp [Request.args]))

/-- READ_REPAIRS arrives at a part at rest (R141). -/
theorem exec_readRepairs : exec (.readRepairs tag x) s = .next (answered tag (.readRepairs x)
    (doReadRepairs x s).2.result (doReadRepairs x s).2.data (doReadRepairs x s).1) :=
  congrArg Host.Outcome.next ((doReadRepairs_queueBlind x).submit_eq h tag (fun _ => rfl) rfl (by simp [Request.args]))

/-- RETIRE_REPAIRS arrives at a part at rest (R142). -/
theorem exec_retireRepairs : exec (.retireRepairs tag x) s = .next (answered tag (.retireRepairs x)
    (doRetireRepairs x s).2.result (doRetireRepairs x s).2.data (doRetireRepairs x s).1) :=
  congrArg Host.Outcome.next ((doRetireRepairs_queueBlind x).submit_eq h tag (fun _ => rfl) rfl (by simp [Request.args]))

end Arrival

end Sys2Proof.Machine

open Sys2Proof Sys2Proof.Machine

/-- Settles O50: each request is answered with what it does at the state as it stands, case by case of its equation. -/
theorem needleAndRepairRequests : Obligations.NeedleAndRepairRequests := by
  unfold Obligations.NeedleAndRepairRequests
  refine ⟨⟨fun tag x y s h hxy => ⟨?_, ?_, ?_⟩, fun tag x y l n s h hx hy => ⟨?_, ?_, ?_⟩⟩, fun tag k s h => ⟨?_, ?_⟩⟩
  · rw [exec_reserveNeedle h, doReserveNeedle_unnamed (unnamed_needle hxy)]
  · rw [exec_restoreNeedle h, doRestoreNeedle_unnamed (unnamed_needle hxy)]
  · rw [exec_lockNeedle h, doLockNeedle_unnamed (unnamed_needle hxy)]
  · rw [exec_reserveNeedle h, doReserveNeedle_named (indexOf_of_eq hx) (indexOf_of_eq hy)]
    split <;> rfl
  · rw [exec_restoreNeedle h, doRestoreNeedle_named (indexOf_of_eq hx) (indexOf_of_eq hy)]
    (repeat' split) <;> rfl
  · rw [exec_lockNeedle h, doLockNeedle_named (indexOf_of_eq hx) (indexOf_of_eq hy), release_eq]
    split <;> rfl
  · rw [exec_readRepairs h, doReadRepairs_eq]
    (repeat' split) <;> rfl
  · rw [exec_retireRepairs h, doRetireRepairs_eq]

end

section
/-!
SUPPORT. The Tally Unit (R150 to R159): the comparator's judgement of an update, a feed report, a panel completion and the requests, each
written as the fields it changes.
-/

namespace Sys2Proof.Machine

/-! ### The comparator (R156, R157) -/

/-- An update of the counts is judged and finds every selected count at its value (R156). -/
def Tally.reaches (t : Tally) (metresChanged panelsChanged : Bool) : Bool :=
  t.selection.judges metresChanged panelsChanged && t.atMark

/-- A mark reached sets MARK, and pause-pending with action PAUSE (R157). -/
theorem markReached_eq (s : State) : markReached s = { s with
    flags := s.flags ||| Flag.mark.mask
    seq := { s.seq with pausePending := s.seq.pausePending || decide (s.tally.action = .pause) } } := by
  cases h : s.tally.action <;> simp [markReached, setFlag, h]

/-- Pause-pending raised by a condition is pause-pending set where the condition holds. -/
theorem with_pausePending_or (q : Sequencer) (b : Bool) :
    { q with pausePending := q.pausePending || b } = if b then { q with pausePending := true } else q := by
  cases b <;> simp

/-- The comparator writes MARK and pause-pending only, and writes them exactly where the mark is reached (R156, R157). -/
theorem judgeMark_eq (metresChanged panelsChanged : Bool) (s : State) :
    judgeMark metresChanged panelsChanged s = { s with
      flags := if s.tally.reaches metresChanged panelsChanged then s.flags ||| Flag.mark.mask else s.flags
      seq := { s.seq with pausePending := s.seq.pausePending ||
        (s.tally.reaches metresChanged panelsChanged && decide (s.tally.action = .pause)) } } := by
  rw [judgeMark, ← Tally.reaches]
  cases s.tally.reaches metresChanged panelsChanged <;> simp [markReached_eq]

/-- A flag that may be set leaves every other flag (R168). -/
theorem hasFlag_setFlagIf (b : Bool) (f g : Flag) (s : State) :
    (setFlagIf b g s).hasFlag f = (s.hasFlag f || (b && decide (f = g))) := by
  have hmask : g.mask.getLsbD f.bit = decide (f = g) := by cases f <;> cases g <;> rfl
  cases b <;> simp [setFlagIf, State.hasFlag, hmask]

/-- MARK after the comparator's judgement (R157). -/
theorem hasFlag_mark_judgeMark (metresChanged panelsChanged : Bool) (s : State) :
    (judgeMark metresChanged panelsChanged s).hasFlag .mark
      = (s.hasFlag .mark || s.tally.reaches metresChanged panelsChanged) := by
  have hset := hasFlag_setFlagIf (s.tally.reaches metresChanged panelsChanged) .mark .mark s
  rw [decide_eq_true rfl, Bool.and_true] at hset
  rw [← hset, judgeMark_eq, setFlagIf]
  cases s.tally.reaches metresChanged panelsChanged <;> rfl

/-- A change of the metre count reaches the mark where METRES or BOTH is selected and every selected count stands at its value (R156). -/
theorem reaches_of_metres (t : Tally) (before : Half) : t.reaches (t.metres != before) false = true ↔
    t.metres ≠ before ∧ t.metres = t.metreValue ∧ (t.selection = .metres ∨ (t.selection = .both ∧ t.panels = t.panelValue)) := by
  cases h : t.selection <;> simp [Tally.reaches, MarkSelection.judges, Tally.atMark, h]

/-- A panel counted reaches the mark where PANELS or BOTH is selected and every selected count stands at its value (R156). -/
theorem reaches_of_panels (t : Tally) (n : Half) : Tally.reaches { t with panels := n } false true = true ↔
    n = t.panelValue ∧ (t.selection = .panels ∨ (t.selection = .both ∧ t.metres = t.metreValue)) := by
  cases t.selection <;> simp [Tally.reaches, MarkSelection.judges, Tally.atMark, and_comm]

/-! ### Feed reports (R150, R151, R153) -/

/-- The cascade counts the feed in steps, 20 to a millimetre and 20000 to a metre, and runs round at 65536 metres (R150). -/
theorem addFeed_steps (t : Tally) (f : Nat) :
    (t.addFeed f).metres.toNat * 20000 + (t.addFeed f).mm * 20 + (t.addFeed f).steps
      = (t.metres.toNat * 20000 + t.mm * 20 + t.steps + f) % (65536 * 20000) := by
  simp only [Tally.addFeed, Tally.metreCarry, Tally.mmCarry, BitVec.toNat_add, BitVec.toNat_ofNat]
  omega

/-- A feed report while STOPPED changes nothing (R153). -/
theorem tallyFeed_stopped {s : State} (h : s.tally.run = false) (f : Nat) : tallyFeed f s = s := by
  simp [tallyFeed, h]

/-- A feed report while RUNNING adds the feed, and the comparator judges the update (R150, R156). -/
theorem tallyFeed_running {s : State} (h : s.tally.run = true) (f : Nat) :
    tallyFeed f s = judgeMark ((s.tally.addFeed f).metres != s.tally.metres) false { s with tally := s.tally.addFeed f } := by
  simp [tallyFeed, h]

/-- A feed report looks at no report in flight. -/
theorem tallyFeed_with_reports (f : Nat) (r : Reports) (s : State) :
    tallyFeed f { s with reports := r } = { tallyFeed f s with reports := r } := by
  cases h : s.tally.run
  · simp only [tallyFeed_stopped, h]
  · simp only [tallyFeed_running, h, judgeMark_eq]

/-- A feed report does not look at the management queue. -/
theorem tallyFeed_with_mgmt (f : Nat) (m : MgmtUnit) (s : State) :
    tallyFeed f { s with mgmt := m } = { tallyFeed f s with mgmt := m } := by
  cases h : s.tally.run
  · simp only [tallyFeed_stopped, h]
  · simp only [tallyFeed_running, h, judgeMark_eq]

/-- The oldest feed report is taken out of those in flight, and the Tally Unit takes it (R151). -/
theorem takeFeedReport_cons {s : State} {f : Nat} {rest : List Nat} (h : s.reports.feeds = f :: rest) :
    takeFeedReport s = tallyFeed f { s with reports := { s.reports with feeds := rest } } := by
  simp only [takeFeedReport, h]

/-- FEED_REPORT while STOPPED only takes the report out of those in flight (R153). -/
theorem takeFeedReport_stopped {s : State} {f : Nat} {rest : List Nat} (h : s.reports.feeds = f :: rest)
    (hrun : s.tally.run = false) : takeFeedReport s = { s with reports := { s.reports with feeds := rest } } := by
  rw [takeFeedReport_cons h, tallyFeed_with_reports, tallyFeed_stopped hrun]

/-- FEED_REPORT while RUNNING (R150, R156, R157). -/
theorem takeFeedReport_running {s : State} {f : Nat} {rest : List Nat} (h : s.reports.feeds = f :: rest)
    (hrun : s.tally.run = true) :
    let t := s.tally.addFeed f
    let reached := t.reaches (t.metres != s.tally.metres) false
    takeFeedReport s = { s with
      tally := t
      reports := { s.reports with feeds := rest }
      flags := if reached then s.flags ||| Flag.mark.mask else s.flags
      seq := { s.seq with pausePending := s.seq.pausePending || (reached && decide (t.action = .pause)) } } := by
  rw [takeFeedReport_cons h, tallyFeed_with_reports, tallyFeed_running hrun, judgeMark_eq]

/-- With no feed report in flight there is none to take. -/
theorem takeFeedReport_nil {s : State} (h : s.reports.feeds = []) : takeFeedReport s = s := by
  simp only [takeFeedReport, h]

/-- With no feed report in flight, taking every one takes none. -/
theorem takeFeeds_nil {s : State} (h : s.reports.feeds = []) : takeFeeds s = s := by
  have hnone : { s with reports := { s.reports with feeds := [] } } = s := by rw [← h]
  rw [takeFeeds, hnone, h, List.foldl_nil]

/-- Taking every feed report takes the oldest and then every other (R151). -/
theorem takeFeeds_takeFeedReport {s : State} (h : s.reports.feeds ≠ []) : takeFeeds (takeFeedReport s) = takeFeeds s := by
  obtain ⟨f, rest, hfeeds⟩ := List.exists_cons_of_ne_nil h
  rw [takeFeedReport_cons hfeeds]
  simp only [takeFeeds, hfeeds, tallyFeed_with_reports, List.foldl_cons]

/-- Taking every feed report does not look at the management queue. -/
theorem takeFeeds_with_mgmt (m : MgmtUnit) (s : State) : takeFeeds { s with mgmt := m } = { takeFeeds s with mgmt := m } :=
  List.foldl_hom (fun t : State => ({ t with mgmt := m } : State)) (g₁ := fun t f => tallyFeed f t) (g₂ := fun t f => tallyFeed f t)
    (init := { s with reports := { s.reports with feeds := [] } }) fun t f => tallyFeed_with_mgmt f m t

/-! ### Panel completions (R37, R152) -/

/-- A panel completion while RUNNING counts the panel, and the comparator judges the update (R152, R156). -/
theorem tallyPanel_running {s : State} (h : s.tally.run = true) :
    tallyPanel s = judgeMark false true { s with tally := { s.tally with panels := s.tally.panels + 1 } } := by
  simp [tallyPanel, h]

/-- A completion while PAUSED takes none of the cases of R37: only the phase changes (log 4). -/
theorem afterCompletion_paused (d : Descriptor) {s : State} (h : s.seq.state = .paused) :
    (afterCompletion d s).tally = s.tally ∧ (afterCompletion d s).hasFlag .mark = s.hasFlag .mark
      ∧ (afterCompletion d s).seq = { s.seq with phase := .none } := by
  rw [afterCompletion, if_pos (by simp [h])]
  exact ⟨rfl, rfl, rfl⟩

/-- The completion of the last panel while RUNNING, with no pause asked but pause-pending: it pauses with MARK or drains the queue (R37). -/
theorem afterCompletion_last {d : Descriptor} {s : State} (hstate : s.seq.state = .running) (hpre : s.seq.prefetch = .none)
    (hlast : s.seq.lvi = s.seq.ci) (hflag : d.pauseAfter = false) :
    afterCompletion d s = if s.seq.pausePending then pauseAtCompletion .mark s else enterDrained s := by
  simp [afterCompletion, hstate, hpre, hlast, hflag, Prefetch.isFaulted]

/-- The end of the last panel while RUNNING keeps the tally, MARK and a cleared pause-pending (R37). -/
theorem pauseOrDrain_keeps (s : State) :
    let t := if s.seq.pausePending then pauseAtCompletion .mark s else enterDrained s
    t.tally = s.tally ∧ t.hasFlag .mark = s.hasFlag .mark ∧ t.seq.pausePending = false := by
  cases h : s.seq.pausePending
  · exact ⟨rfl, (hasFlag_setFlagIf true .mark .queueDrained _).trans (Bool.or_false _), h⟩
  · exact ⟨rfl, rfl, rfl⟩

section Completion

variable {s : State} (h : s.tally.run = true) (ctx : Context)
include h

/-- The tally of a completion while RUNNING (R152). -/
theorem closePanel_tally : (closePanel ctx s).tally = { s.tally with panels := s.tally.panels + 1 } := by
  simp [closePanel, tallyPanel_running h]

/-- The Sequencer of a completion while the tally is RUNNING, before the choice that follows (R37, R157). -/
theorem closePanel_seq : (closePanel ctx s).seq = { s.seq with
    current := none, ciStatus := .completed
    pausePending := s.seq.pausePending || (Tally.reaches { s.tally with panels := s.tally.panels + 1 } false true
      && decide (s.tally.action = .pause)) } := by
  simp [closePanel, tallyPanel_running h, judgeMark_eq]

/-- MARK at a completion while the tally is RUNNING (R157). -/
theorem closePanel_mark : (closePanel ctx s).hasFlag .mark
    = (s.hasFlag .mark || Tally.reaches { s.tally with panels := s.tally.panels + 1 } false true) := by
  calc (closePanel ctx s).hasFlag .mark
      = (setFlagIf ctx.desc.notice .panelDone (tallyPanel s)).hasFlag .mark := by simp [closePanel, State.hasFlag]
    _ = (tallyPanel s).hasFlag .mark := by simp [hasFlag_setFlagIf]
    _ = _ := by rw [tallyPanel_running h, hasFlag_mark_judgeMark]; rfl

/-- A completion while PAUSED counts the panel, and a mark reached with action PAUSE sets pause-pending (R157, log 4). -/
theorem completePanel_paused (hstate : s.seq.state = .paused) :
    let reached := Tally.reaches { s.tally with panels := s.tally.panels + 1 } false true
    (completePanel ctx s).tally = { s.tally with panels := s.tally.panels + 1 }
      ∧ (completePanel ctx s).hasFlag .mark = (s.hasFlag .mark || reached)
      ∧ (completePanel ctx s).seq = { s.seq with
          current := none, ciStatus := .completed, phase := .none
          pausePending := s.seq.pausePending || (reached && decide (s.tally.action = .pause)) } := by
  have hseq := closePanel_seq h ctx
  obtain ⟨htally, hmark, hafter⟩ := afterCompletion_paused ctx.desc (s := closePanel ctx s) (by rw [hseq]; exact hstate)
  exact ⟨htally.trans (closePanel_tally h ctx), hmark.trans (closePanel_mark h ctx), by rw [completePanel, hafter, hseq]⟩

/-- The completion of the last panel while RUNNING counts the panel, and a mark reached with action PAUSE pauses it (R37, R157). -/
theorem completePanel_last (hstate : s.seq.state = .running) (hpre : s.seq.prefetch = .none) (hlast : s.seq.lvi = s.seq.ci)
    (hpend : s.seq.pausePending = false) (hflag : ctx.desc.pauseAfter = false) :
    let reached := Tally.reaches { s.tally with panels := s.tally.panels + 1 } false true
    let t := completePanel ctx s
    t.tally = { s.tally with panels := s.tally.panels + 1 } ∧ t.seq.pausePending = false
      ∧ t.hasFlag .mark = (s.hasFlag .mark || reached)
      ∧ (reached = true ∧ s.tally.action = .pause → t.seq.state = .paused ∧ t.seq.cause = .mark)
      ∧ (¬ (reached = true ∧ s.tally.action = .pause) → t.seq.state = .drained ∧ t.seq.cause = .none) := by
  intro reached t
  have hseq := closePanel_seq h ctx
  have hdone : t = if (closePanel ctx s).seq.pausePending then pauseAtCompletion .mark (closePanel ctx s)
      else enterDrained (closePanel ctx s) :=
    afterCompletion_last (by rw [hseq]; exact hstate) (by rw [hseq]; exact hpre) (by rw [hseq]; exact hlast) hflag
  have hpause : (closePanel ctx s).seq.pausePending = true ↔ reached = true ∧ s.tally.action = .pause := by
    simp [hseq, hpend, reached]
  obtain ⟨htally, hmark, hclear⟩ := pauseOrDrain_keeps (closePanel ctx s)
  rw [hdone, ← hpause]
  refine ⟨htally.trans (closePanel_tally h ctx), hclear, hmark.trans (closePanel_mark h ctx), fun hp => ?_, fun hp => ?_⟩
  · rw [if_pos hp]
    exact ⟨rfl, rfl⟩
  · rw [if_neg hp]
    exact ⟨rfl, rfl⟩

end Completion

/-- The consumption that ends TRIM_OUT is taken, and completes the panel (R34, R37). -/
theorem exec_phaseEnd_trimOut {s : State} {ctx : Context} {r : SeqReport} (hc : s.seq.current = some ctx)
    (hp : s.seq.phase = .panel .trimOut) (hr : s.reports.sequencer = some r) :
    ∃ u : State, exec .phaseEnd s = .next (completePanel ctx u) ∧ u.seq = s.seq ∧ u.tally = s.tally
      ∧ u.hasFlag .mark = s.hasFlag .mark := by
  refine ⟨{ s with reports := { s.reports with sequencer := none } }, ?_, rfl, rfl, rfl⟩
  simp [exec, execPhaseEnd, phaseEnds, takeSequencerReport, consumeSequencer, countConsumption, endPhase, phaseAfter, hc, hp, hr]

/-! ### Requests (R154, R159) -/

/-- The reset outcome tells whether a reset was asked, and whether it was made (R154, Table 8-3). -/
theorem resetOutcome_eq (wasRunning run reset : Bool) :
    resetOutcome wasRunning run reset = if reset then (if reset && !wasRunning && !run then 1 else 2) else 0 := by
  cases reset
  · rfl
  · simp only [resetOutcome, ← Bool.not_or, Bool.true_and, if_true]
    cases wasRunning || run <;> rfl

/-- A reset is made exactly where it is asked of a tally that was STOPPED and stays STOPPED (R154). -/
theorem resetOutcome_made (wasRunning run reset : Bool) :
    resetOutcome wasRunning run reset = 1 ↔ (reset && !wasRunning && !run) = true := by
  rw [resetOutcome_eq]
  cases reset <;> simp

/-- TALLY_CONTROL does not look at the management queue (R154). -/
theorem doTallyControl_queueBlind (bits : Byte) : QueueBlind (doTallyControl bits) := by
  intro m s
  simp only [doTallyControl, takeFeeds_with_mgmt]

/-- A selection above 3 or an action above 1 names no setting (R159, R181). -/
theorem doSetMark_range {selection action : Byte} (h : 4 ≤ selection.toNat ∨ 2 ≤ action.toNat) (mv pv : Half) (s : State) :
    doSetMark selection mv pv action s = (s, ⟨.range, []⟩) := by
  rcases h with hsel | hact
  · have hnone : selectionOf selection = none := by
      obtain ⟨k, hk⟩ := Nat.exists_eq_add_of_le' hsel
      rw [selectionOf, hk]
      rfl
    simp only [doSetMark, hnone]
  · have hnone : markActionOf action = none := by
      obtain ⟨k, hk⟩ := Nat.exists_eq_add_of_le' hact
      rw [markActionOf, hk]
      rfl
    simp only [doSetMark, hnone]
    cases selectionOf selection <;> rfl

/-- A code names its selection (Table 10-2). -/
theorem selectionOf_code (m : MarkSelection) : selectionOf m.code = some m := by cases m <;> rfl

/-- A code names its action (Table 10-2). -/
theorem markActionOf_code (a : MarkAction) : markActionOf a.code = some a := by cases a <;> rfl

/-- SET_MARK does not look at the management queue (R159). -/
theorem doSetMark_queueBlind (selection : Byte) (mv pv : Half) (action : Byte) : QueueBlind (doSetMark selection mv pv action) := by
  intro m s
  unfold doSetMark
  split <;> rfl

/-- SET_MARK read back from its bytes (Table 10-5). -/
theorem parse_setMark (selection : Byte) (mv pv : Half) (action : Byte) :
    parseRequest (Request.setMark selection mv pv action).code (Request.setMark selection mv pv action).args
      = .request (.setMark selection mv pv action) := by
  simp [parseRequest, Request.code, Request.args, halfBytes, parseMark]

section Arrival

variable {s : State} (h : s.attentive) (tag bits selection action : Byte) (mv pv : Half)
include h

/-- TALLY_CONTROL arrives at a part at rest (R154). -/
theorem exec_tallyControl : exec (.tallyControl tag bits) s = .next (answered tag (.tallyControl bits)
    (doTallyControl bits s).2.result (doTallyControl bits s).2.data (doTallyControl bits s).1) :=
  congrArg Host.Outcome.next ((doTallyControl_queueBlind bits).submit_eq h tag (fun _ => rfl) rfl (by simp [Request.args]))

/-- SET_MARK arrives at a part at rest (R159). -/
theorem exec_setMark : exec (.setMark tag selection mv pv action) s = .next (answered tag (.setMark selection mv pv action)
    (doSetMark selection mv pv action s).2.result (doSetMark selection mv pv action s).2.data
    (doSetMark selection mv pv action s).1) :=
  congrArg Host.Outcome.next ((doSetMark_queueBlind selection mv pv action).submit_eq h tag (fun _ => rfl)
    (parse_setMark selection mv pv action) (by simp [Request.args, halfBytes]))

end Arrival

end Sys2Proof.Machine

open Sys2Proof Sys2Proof.Machine

/-- Settles O51: a feed report and a panel completion are each the comparator's judgement of the updated tally. -/
theorem feedReportsAndMarks : Obligations.FeedReportsAndMarks := by
  unfold Obligations.FeedReportsAndMarks
  refine ⟨fun s f rest hfeeds => ⟨fun hrun => ?_, fun hrun _ _ _ => ?_⟩, fun s => ⟨fun hnone => ?_, ?_⟩,
    fun s ctx r hcur hphase hrep hrun => ?_⟩
  · exact congrArg Host.Outcome.next (takeFeedReport_stopped hfeeds hrun)
  · obtain ⟨hsteps, hmm⟩ := addFeed_inRange s.tally f
    refine ⟨s.tally.addFeed f, rfl, hsteps, hmm, addFeed_steps s.tally f, ?_⟩
    refine congrArg Host.Outcome.next ((takeFeedReport_running hfeeds hrun).trans ?_)
    simp only [with_pausePending_or, Bool.and_eq_true, decide_eq_true_eq, reaches_of_metres]
  · exact ⟨congrArg Host.Outcome.next (takeFeedReport_nil hnone), takeFeeds_nil hnone⟩
  · rintro t hfeeds ht
    obtain rfl : takeFeedReport s = t := Host.Outcome.next.inj ht
    exact (takeFeeds_takeFeedReport hfeeds).symm
  · obtain ⟨u, hexec, hseq, htally, hmark⟩ := exec_phaseEnd_trimOut hcur hphase hrep
    rw [← htally] at hrun
    simp only [← hseq, ← htally, ← hmark, ← reaches_of_panels, Bool.decide_eq_true, Bool.decide_and]
    exact ⟨fun hstate hpre hlast hpend hflag => ⟨_, hexec, completePanel_last hrun ctx hstate hpre hlast hpend hflag⟩,
      fun hstate => ⟨_, hexec, completePanel_paused hrun ctx hstate⟩⟩

/-- Settles O52: TALLY_CONTROL by its reset outcome after the feeds in flight, SET_MARK by what its codes name. -/
theorem tallyRequests : Obligations.TallyRequests := by
  unfold Obligations.TallyRequests
  intro tag bits selection action mv pv s h v t run zero u
  refine ⟨?_, fun hout => ?_, ?_⟩
  · have hbyte : resetOutcome t.run run (bits.getLsbD 1) = if bits.getLsbD 1 then (if zero then 1 else 2) else 0 :=
      resetOutcome_eq _ _ _
    have htally : { (if resetOutcome t.run run (bits.getLsbD 1) = 1 then t.zero else t) with run := run } = u := by
      simp only [resetOutcome_made]
      unfold u
      split <;> rfl
    rw [exec_tallyControl h, ← htally, ← hbyte]
    rfl
  · rw [exec_setMark h, doSetMark_range hout]
  · rintro m a rfl rfl
    rw [exec_setMark h]
    simp only [doSetMark, selectionOf_code, markActionOf_code]

end

section
/-!
SUPPORT. The equations of a step, one for each shape of the command queue, and the statement they make up.
-/

namespace Sys2Proof.Machine

/-- A queue with a command in front. -/
theorem step_of_pending_cons {c : Instr} {rest : List Instr} {s : State} (hfront : s.pending = c :: rest) :
    step s = exec c { s with pending := rest } := by
  unfold step
  rw [hfront]

/-- An empty queue: the block idles, which is the model's choice (log 1). -/
theorem step_of_pending_nil {s : State} (hempty : s.pending = []) : step s = .next s := by
  unfold step
  rw [hempty]

end Sys2Proof.Machine

open Sys2Proof Sys2Proof.Machine

/-- Settles O1: the two shapes of the queue are the two equations of a step. -/
theorem stepExecutesFront : Obligations.StepExecutesFront := by
  unfold Obligations.StepExecutesFront
  exact ⟨fun _ _ _ hfront => step_of_pending_cons hfront, fun _ hempty => step_of_pending_nil hempty⟩

end
